-- ==== Sys2Proof/Word.lean ====
section
/-! DEFINITION. Words, bytes, identities, line levels, the fixed-size table and saturating counts. -/

namespace Sys2Proof

/-- A host register or window word: every bus access moves 16 bits (R164). -/
abbrev Word := BitVec 16

/-- One byte of a frame or of a data buffer. -/
abbrev Byte := BitVec 8

/-- A station identity: class in bits 47..32, serial in bits 31..0 (R16). -/
abbrev Ident := BitVec 48

/-- The two states of the field line (R2). -/
inductive Level where
  | dominant
  | recessive
  deriving DecidableEq, Repr

/-- The samples of one received byte: bit `i` is the `i`-th bit time of the byte (the start bit first),
1 for recessive and 0 for dominant (R4, R5). -/
abbrev RxByte := BitVec 10

/-- A table of exactly `n` records, as the station table (R21) or the schedule table (R104). -/
structure Table (α : Type) (n : Nat) where
  cells : List α
  size : cells.length = n
  deriving DecidableEq, Repr

/-- The table whose `n` records are all `a`. -/
def Table.fill {α : Type} (n : Nat) (a : α) : Table α n := ⟨List.replicate n a, by simp⟩

/-- Record `i`, or `d` where the table has none. -/
def Table.get {α : Type} {n : Nat} (t : Table α n) (i : Nat) (d : α) : α := t.cells.getD i d

/-- The table with record `i` replaced; unchanged where the table has no record `i`. -/
def Table.set {α : Type} {n : Nat} (t : Table α n) (i : Nat) (a : α) : Table α n :=
  ⟨t.cells.set i a, by simp [t.size]⟩

/-- Every record replaced by a function of its number and itself. -/
def Table.update {α : Type} {n : Nat} (t : Table α n) (f : Nat → α → α) : Table α n :=
  ⟨t.cells.mapIdx f, by simp [t.size]⟩

/-- One more on a count that saturates at `top` (section 0.8, Counts). -/
def satSucc (top n : Nat) : Nat := min (n + 1) top

/-- The word with `hi` in bits 15:8 and `lo` in bits 7:0. -/
def pairWord (hi lo : Nat) : Word := (BitVec.ofNat 8 hi ++ BitVec.ofNat 8 lo : BitVec (8 + 8))

/-- Bits 15:8 of a word. -/
def Word.hiByte (w : Word) : Byte := w.extractLsb' 8 8

/-- Bits 7:0 of a word. -/
def Word.loByte (w : Word) : Byte := w.extractLsb' 0 8

/-- One bit of a word as a word, for putting fields together. -/
def bitAt (b : Bool) (pos : Nat) : Word := if b then (1 : Word) <<< pos else 0

end Sys2Proof
end

