-- ==== Sys2Proof/Syntax.lean ====
section
/-! DEFINITION. The commands of the TF7230: one constructor for each row of spec/opcode_table.json. -/

namespace Sys2Proof

/-- What the block may be sent: host bus accesses, pin events, and the events of the timer and the line.
The table gives its rows no operands; those here are the values the rule of the row speaks of (log 17, log 18). -/
inductive Instr where
  /-- RESET# asserted (R151); `duringRead`: a bus read is in progress at that moment. -/
  | resetPinAssert (duringRead : Bool)
  /-- RESET# deasserted (R151). -/
  | resetPinRelease
  /-- The end of initialisation (R153). -/
  | initEnd
  /-- CMD 0x01 (R152). -/
  | reset
  /-- CMD 0x02 (R154). -/
  | start
  /-- CMD 0x03 (R155). -/
  | stop
  /-- CMD 0x04 (R157). -/
  | halt
  /-- CMD 0x05 (R159). -/
  | resume
  /-- A dominant sample of the line check (R160). -/
  | lineCheckStuck
  /-- The end of the 32nd recessive bit time of the line check (R160). -/
  | lineCheckClear
  /-- CMD 0x10 (R48, R49). -/
  | timingLoad
  /-- CMD 0x20 (R35). -/
  | threshLoad
  /-- CMD 0x21 (R36). -/
  | pin
  /-- CMD 0x22 (R37). -/
  | unpin
  /-- CMD 0x23 (R38). -/
  | clearConflict
  /-- CMD 0x24 (R41). -/
  | popChange
  /-- CMD 0x25 (R39). -/
  | stationSnap
  /-- CMD 0x30 (R106). -/
  | schedSet
  /-- CMD 0x31 (R107). -/
  | schedEnable
  /-- CMD 0x32 (R108). -/
  | schedDisable
  /-- CMD 0x33 (R109). -/
  | schedSnap
  /-- CMD 0x40 (R125). -/
  | take
  /-- CMD 0x41 (R128). -/
  | put
  /-- CMD 0x50 (R134). -/
  | submit
  /-- CMD 0x51 (R146). -/
  | cancel
  /-- CMD 0x52 (R145). -/
  | popCompletion
  /-- A write to CMD of a code that names no command (R172). -/
  | unknownCommand (code : Word)
  /-- A write to WIN_SEL (R166). -/
  | winSelWrite (value : Word)
  /-- A write to WIN_INDEX (R166). -/
  | winIndexWrite (value : Word)
  /-- A read of WIN_DATA (R167). -/
  | winDataRead
  /-- A write to WIN_DATA (R167). -/
  | winDataWrite (value : Word)
  /-- A write to EVENT (R174). -/
  | eventWrite (value : Word)
  /-- A write to ENABLE (R175). -/
  | enableWrite (value : Word)
  /-- A write to the register at word address `addr` = A5..A1 (R164, R165). -/
  | registerWrite (addr : BitVec 5) (value : Word)
  /-- The expiry of the open window (R52, R53). -/
  | cycleStart
  /-- The expiry of the scheduled window (R52). -/
  | schedWindowEnd
  /-- The grant decision of a bit-time boundary (R65). -/
  | grantDecision
  /-- The echo monitor's sample of a driven bit, differing from it (R70); `lrx`: the level sampled. -/
  | echoMismatch (lrx : Level)
  /-- The end of a frame's last bit without a mismatch (R63, R71). -/
  | frameSentClean
  /-- The end of the response wait with no leading edge (R12). -/
  | responseWaitExpiry
  /-- The end of a reply as its LENGTH declares it (R13, R73); `bytes`: the samples of its bytes (R5); `onGrid`: it falls on
  a bit-time boundary. -/
  | replyReceptionEnd (bytes : List RxByte) (onGrid : Bool)
  /-- The reply deadline reached by a reply still being received (R13). -/
  | replyDeadline
  /-- Bit time 176 of a round: the last check slot has been sampled (R77). -/
  | checkSlotsEnd
  /-- The end of a closing gap (R76 to R78). -/
  | closingGapEnd
  /-- The first leading edge of a reply (R12); `onGrid`: it falls on a bit-time boundary. -/
  | replyLeadingEdge (onGrid : Bool)
  /-- The end of a bit time (R64); `mid`: LRX at the middle of the bit time, `fin`: LRX at its end (R3). -/
  | bitTimeEnd (mid fin : Level)
  deriving DecidableEq, Repr

end Sys2Proof
end

