-- ==== Sys2Proof/Decode.lean ====
section
/-! DEFINITION. Decoding of table words.  spec/opcode_table.json gives no row any bits: the commands are bus accesses, pin
events and line events, and no word spells one (log 22). -/

namespace Sys2Proof

/-- The command a word spells by the table's bits: none, since the table gives bits to no row (log 22). -/
def decodeTableWord (_nbits _w : Nat) : Option Instr := none

end Sys2Proof
end

