-- ==== Sys2Proof/Config.lean ====
section
/-! DEFINITION. The free values: what the manual leaves open, as constants without a body (log 7, log 8, log 12, log 27,
log 29). -/

namespace Sys2Proof

/-- The word that a bus read cut by RESET# returns is undefined (R151); the argument counts the uses. -/
opaque Config.undefinedRead : Nat → Word

/-- Which of two completions caused by one change of run state is written first is not stated (R144, R163):
true, the Request Engine's; false, the Discovery Unit's.  The argument counts the uses. -/
opaque Config.engineFirst : Nat → Bool

/-- Whether the Poll Scheduler's choice at a bit-time boundary is taken before the grant decision of the same boundary; either
order may be (R113).  The argument counts the uses. -/
opaque Config.choiceFirst : Nat → Bool

/-- Whether the ROUND claim placed as a round ends is seen by the grant decision of that bit-time boundary or by a later one;
either may be (R95).  The argument counts the uses. -/
opaque Config.roundSeen : Nat → Bool

/-- The order in which THRESH_LOAD adds the addresses of several SUSPECT entries to the change list is not stated (R35,
R40): they are added in rising rank.  The first argument counts the uses, the second is the address. -/
opaque Config.suspectRank : Nat → Nat → Nat

end Sys2Proof
end

