-- ==== Sys2Proof/Machine/State.lean ====
section
/-! DEFINITION. The state of the TF7230, block by block as the manual divides it (section 0.3), and its value after reset. -/

namespace Sys2Proof.Machine

open Sys2Proof

/-! ## Codes shared by several blocks (section 12.3, section 12.4) -/

/-- The outcomes of attempts, requests and sweeps (R75, R143), in the order of their codes (section 12.4). -/
inductive LineOutcome where
  | ok | nak | timeout | checkError | lengthError | addressMismatch | identityMismatch | lineError
  | noStation | tooLong | aborted | stopped | sweepBusy | tableFull | noisy | windowTooShort | cancelled
  deriving DecidableEq, Repr

/-- The status of a reply (R11). -/
inductive ReplyStatus where
  | ok | busy | noObject | refused
  deriving DecidableEq, Repr

/-- The result codes of commands (R172), in the order of their codes (section 12.3). -/
inductive ResultCode where
  | done | notReady | badState | badArg | queueFull | dupTag | tooLong | notFound | inFlight | empty | busy
  | idInUse | entryEnabled | wrongDirection | unknownCommand
  deriving DecidableEq, Repr

/-- What the Line Sequencer keeps of an accepted reply (R73): its status, length and payload. -/
structure Reply where
  status  : ReplyStatus := .ok
  length  : Nat := 0
  payload : List Byte := []
  deriving DecidableEq, Repr

/-! ## Run Control (chapter 9) -/

/-- The run states (R150). -/
inductive RunState where
  | init | off | running | draining | faulted | checking
  deriving DecidableEq, Repr

/-- The line-check result (R150). -/
inductive CheckResult where
  | none | clear | stuck
  deriving DecidableEq, Repr

/-- How far a line check has come (R159, R160). -/
inductive CheckProgress where
  /-- No check. -/
  | idle
  /-- RESUME has been taken; the check begins at the next bit-time boundary. -/
  | armed
  /-- `n` recessive samples have been taken. -/
  | sampling (n : Nat)
  /-- A dominant sample has been taken. -/
  | dominant
  deriving DecidableEq, Repr

structure RunControl where
  state         : RunState := .init
  lineCheck     : CheckResult := .none
  check         : CheckProgress := .idle
  /-- RESET# is asserted (R151). -/
  resetAsserted : Bool := false
  deriving DecidableEq, Repr

/-! ## Cycle Timer (chapter 3) -/

/-- A timing set (R44), with the reset values. -/
structure TimingSet where
  bitdiv   : Nat := 48
  tickdiv  : Nat := 16
  schedLen : Nat := 125
  openLen  : Nat := 125
  respWait : Nat := 16
  deriving DecidableEq, Repr

/-- The current window (R52). -/
inductive Window where
  | noWindow | sched | openWin
  deriving DecidableEq, Repr

structure CycleTimer where
  inForce        : TimingSet := {}
  pendingSet     : TimingSet := {}
  pendingPresent : Bool := false
  /-- The bit clock runs (R46). -/
  bitClock       : Bool := false
  window         : Window := .noWindow
  /-- R47; the reset values of this and the prescaler are the model's (log 20). -/
  tickCount      : Nat := 0
  prescaler      : Nat := 0
  /-- CYCLE (R55). -/
  cycle          : Word := 0
  deriving DecidableEq, Repr

/-! ## Line Sequencer (chapters 1 and 4) -/

/-- A command frame as built (R6, R68): HEADER, OBJECT, PAYLOAD and CHECK; LENGTH is the payload's. -/
structure Frame where
  header  : Byte
  object  : Byte
  payload : List Byte
  check   : Word
  deriving DecidableEq, Repr

/-- The exchange a claim asks for (R61). -/
inductive Exchange where
  | poll | write | release
  deriving DecidableEq, Repr

/-- The owner of a claim of the Poll Scheduler or the Request Engine (R61). -/
inductive ClaimOwner where
  | scheduler (entry : Nat)
  | request (tag : Nat)
  deriving DecidableEq, Repr

/-- A claim of the Poll Scheduler or the Request Engine (R61).  The Discovery Unit's ROUND claim carries
nothing that varies (R86), so it is a flag. -/
structure Claim where
  owner    : ClaimOwner
  exchange : Exchange
  dest     : Nat
  object   : Byte
  lc       : Nat
  lr       : Nat
  attempt  : Nat
  compare  : Option Ident
  deriving DecidableEq, Repr

/-- The owner of the transaction in flight (R62). -/
inductive RecordOwner where
  | claim (o : ClaimOwner)
  | discovery
  | beacon
  deriving DecidableEq, Repr

/-- The phases of a transaction (R63). -/
inductive Phase where
  | sending | waiting | receiving | closing
  deriving DecidableEq, Repr

/-- Which frame or part of a transaction is on the line: the one frame of a beacon or a claim, or a part of a
round (R77, R78). -/
inductive Part where
  | single | contend | slots | restart | assign | release
  deriving DecidableEq, Repr

/-- What follows the closing gap now running or next to run (R76 to R78). -/
inductive AfterGap where
  | finish
  | slots
  | restart
  | assign (ident : Ident) (addr : Nat)
  | release (addr : Nat)
  deriving DecidableEq, Repr

/-- The in-flight transaction record (R62), with the Line Sequencer's counts of bit times. -/
structure Record where
  owner       : RecordOwner
  /-- The exchange of the claim; absent for a beacon and a round. -/
  exchange    : Option Exchange
  /-- The destination of the claim; 0 for a beacon and a round. -/
  dest        : Nat
  frame       : Frame
  lr          : Nat
  source      : Option Nat
  compare     : Option Ident
  reservation : Nat
  attempt     : Nat
  phase       : Phase
  outcome     : Option LineOutcome
  reply       : Reply
  part        : Part
  after       : AfterGap
  /-- The slot samples so far, the latest in bit 0 (R17). -/
  heard       : BitVec 56
  /-- Bit times since the first bit of the frame now or last sent. -/
  elapsed     : Nat
  /-- Bit times since the present phase began. -/
  phaseTime   : Nat
  /-- The present phase began inside a bit time (R70, R12). -/
  offGrid     : Bool
  deriving DecidableEq, Repr

/-- The claimants of the open window (R69). -/
inductive OpenOwner where
  | request | discovery
  deriving DecidableEq, Repr

structure LineSequencer where
  record        : Option Record := none
  schedClaim    : Option Claim := none
  reqClaim      : Option Claim := none
  /-- The Discovery Unit's ROUND claim is placed (R86). -/
  roundClaim    : Bool := false
  beaconPending : Bool := false
  /-- The arbiter's last-grant memory (R69). -/
  lastGrant     : OpenOwner := .discovery
  idleRun       : Nat := 0
  echoCount     : Nat := 0
  lineErrors    : Nat := 0
  /-- The grant decision of the present bit-time boundary has not been made (log 13). -/
  boundary      : Bool := false
  deriving DecidableEq, Repr

/-! ## Station Roster (chapter 2) -/

/-- The states of a station-table entry (R23), in the order of their codes (section 12.4). -/
inductive StationState where
  | free | reserved | joining | active | suspect | lost
  deriving DecidableEq, Repr

/-- A station-table entry (R21), with the values of a FREE entry (R22). -/
structure StationEntry where
  state       : StationState := .free
  pinned      : Bool := false
  conflict    : Bool := false
  identity    : Ident := 0
  failures    : Nat := 0
  errorTotal  : Nat := 0
  replied     : Bool := false
  lastReply   : Word := 0
  rejoins     : Nat := 0
  prior       : StationState := .free
  deriving DecidableEq, Repr

structure Roster where
  /-- The entry of address `n` is record `n - 1`. -/
  table       : Table StationEntry 60 := .fill 60 {}
  /-- The change list, oldest first (R40). -/
  changes     : List Nat := []
  suspectAt   : Nat := 3
  lostAt      : Nat := 6
  discRetries : Nat := 4
  deriving DecidableEq, Repr

/-! ## Discovery Unit (chapter 5) -/

/-- The sweep record (R83). -/
structure Sweep where
  tag              : Nat
  newStations      : Nat := 0
  rejoined         : Nat := 0
  rounds           : Nat := 0
  consecutiveNoisy : Nat := 0
  totalNoisy       : Nat := 0
  cancelRequested  : Bool := false
  faultSeen        : Bool := false
  deriving DecidableEq, Repr

/-- The phases of a round from the unit's side (R87).  DECIDE lies inside one step, but a round decided EMPTY stays in
it to its end, since it skips CLOSING. -/
inductive RoundPhase where
  | contend | slots | check | decide | assignWait | closing
  deriving DecidableEq, Repr

/-- The verdict on what the slots held (R88). -/
inductive SlotVerdict where
  | noisy | empty | valid
  deriving DecidableEq, Repr

/-- The round state (R87): what the end of the round will be decided on (R95). -/
structure Round where
  phase     : RoundPhase := .contend
  /-- The address of the JOINING entry, in ASSIGN_WAIT. -/
  address   : Nat := 0
  verdict   : Option SlotVerdict := none
  tableFull : Bool := false
  aborted   : Bool := false
  deriving DecidableEq, Repr

/-- The Discovery Unit (R83): IDLE, SWEEPING with its sweep record, or ROUND with that and the round's state. -/
inductive Discovery where
  | idle
  | sweeping (sweep : Sweep)
  | inRound (sweep : Sweep) (round : Round)
  deriving DecidableEq, Repr

/-! ## Poll Scheduler (chapters 6 and 7) -/

/-- The statuses of a schedule entry (R105), in the order of their codes (section 12.4). -/
inductive SchedStatus where
  | disabled | waiting | due | inFlight | held | starved
  deriving DecidableEq, Repr

/-- A schedule entry (R104).  The configured fields have the widths of the schedule stage (section 12.5), since
SCHED_SET copies them as written (R106). -/
structure SchedEntry where
  target         : Word := 0
  object         : Byte := 0
  direction      : Byte := 0
  length         : Word := 0
  period         : Word := 0
  phase          : Word := 0
  retries        : Byte := 0
  policy         : Byte := 0
  status         : SchedStatus := .disabled
  countdown      : Nat := 0
  attempt        : Nat := 0
  late           : Nat := 0
  skipped        : Nat := 0
  failed         : Nat := 0
  lastOutcome    : LineOutcome := .ok
  lastStatus     : ReplyStatus := .ok
  lastCycle      : Word := 0
  disablePending : Bool := false
  deriving DecidableEq, Repr

/-- A mailbox (R121).  `data` holds the meaningful bytes, so *length* is its length. -/
structure Mailbox where
  data      : List Byte := []
  fillCycle : Word := 0
  full      : Bool := false
  fresh     : Bool := false
  overrun   : Nat := 0
  replaced  : Bool := false
  deriving DecidableEq, Repr

structure Scheduler where
  entries   : Table SchedEntry 32 := .fill 32 {}
  mailboxes : Table Mailbox 32 := .fill 32 {}
  deriving DecidableEq, Repr

/-! ## Request Engine (chapter 8) -/

/-- The kinds of request (R133), in the order of their codes (section 12.4). -/
inductive ReqKind where
  | read | write | probe | release | discover
  deriving DecidableEq, Repr

/-- A request record (R133). -/
structure Request where
  tag     : Nat
  kind    : ReqKind
  address : Nat := 0
  object  : Byte := 0
  length  : Nat := 0
  retries : Nat := 0
  payload : List Byte := []
  deriving DecidableEq, Repr

/-- The condition of the head record (R136).  IN_FLIGHT is `onLine` or `retryWaiting`; the latter keeps the last
attempt's outcome and number, which the request completes with if the retry is withdrawn (R139, R147). -/
inductive HeadCondition where
  | untaken
  | claimed
  | onLine
  | retryWaiting (last : LineOutcome) (attempt : Nat)
  deriving DecidableEq, Repr

/-- A completion record (R142). -/
structure Completion where
  tag         : Nat
  kind        : ReqKind
  address     : Nat := 0
  outcome     : LineOutcome
  attempts    : Nat := 0
  status      : ReplyStatus := .ok
  length      : Nat := 0
  payload     : List Byte := []
  newStations : Nat := 0
  rejoined    : Nat := 0
  rounds      : Nat := 0
  totalNoisy  : Nat := 0
  deriving DecidableEq, Repr

structure RequestEngine where
  queue        : List Request := []
  head         : HeadCondition := .untaken
  completions  : List Completion := []
  /-- The count of completion reservations (R135). -/
  reservations : Nat := 0
  deriving DecidableEq, Repr

/-! ## Host Port (chapter 10) -/

/-- The sticky flags of EVENT (R174). -/
structure Sticky where
  mbx       : Bool := false
  cyc       : Bool := false
  starve    : Bool := false
  checkDone : Bool := false
  initDone  : Bool := false
  drained   : Bool := false
  deriving DecidableEq, Repr

structure HostPort where
  tBitdiv    : Word := 0x30
  tTickdiv   : Word := 0x10
  tSched     : Word := 0x7D
  tOpen      : Word := 0x7D
  tResp      : Word := 0x10
  thresh     : Word := 0x463
  arg        : Word := 0
  cmd        : Word := 0
  result     : ResultCode := .done
  resultVal  : Word := 0
  winSel     : Word := 0
  winIndex   : Word := 0
  reqStage   : Table Word 20 := .fill 20 0
  schedStage : Table Word 6 := .fill 6 0
  putBuf     : Table Word 17 := .fill 17 0
  pinStage   : Table Word 4 := .fill 4 0
  takeBuf    : Table Word 19 := .fill 19 0
  snap       : Table Word 12 := .fill 12 0
  sticky     : Sticky := {}
  enable     : BitVec 9 := 0
  deriving DecidableEq, Repr

/-! ## The whole block -/

/-- The state of the TF7230 and the queue of the commands that wait. -/
structure State where
  run     : RunControl := {}
  timer   : CycleTimer := {}
  line    : LineSequencer := {}
  roster  : Roster := {}
  disc    : Discovery := .idle
  sched   : Scheduler := {}
  req     : RequestEngine := {}
  host    : HostPort := {}
  /-- D15..D0: the word the last WIN_DATA read returned (R164, log 6). -/
  dataBus : Word := 0
  /-- The model's count of the free values used so far (log 7). -/
  freeIndex : Nat := 0
  /-- The commands that wait, oldest first. -/
  pending : List Instr := []
  deriving DecidableEq, Repr

/-- The block right after reset: every field as its chapter gives it for reset (R22, R45, R55, R82, R83, R105, R121,
R149, R150, R177), initialisation in progress, RESET# deasserted (log 4), no command waiting. -/
def State.reset : State := {}

/-- The block has no fault: no command of the manual stops it (INVENTORY.md, Faults). -/
inductive Fault where
  deriving DecidableEq, Repr

/-- Refusals of the model itself. -/
inductive Refusal where
  /-- Raised by an arm of exec whose command has no meaning yet; no arm does now.  Safe: nothing can be proved of
  a step that does not happen. -/
  | notModelled (mnemonic : String)
  deriving DecidableEq, Repr

/-- What a command answers. -/
abbrev Answer := Host.Outcome State Fault Refusal

end Sys2Proof.Machine
end

