-- ==== Sys2Proof/Machine/Frames.lean ====
section
/-! DEFINITION. Frames on the field line: the check, the frames the controller builds, their bits, their worst-case
durations, and the judging of a received reply (chapter 1, R68, R73, R74, section 12.6). -/

namespace Sys2Proof.Machine

open Sys2Proof

/-! ## The check (R10) -/

/-- One message bit fed to the check register. -/
def crcBit (reg : Word) (b : Bool) : Word :=
  if reg.msb != b then (reg <<< 1) ^^^ 0x1021 else reg <<< 1

/-- One byte fed, most significant bit first. -/
def crcByte (reg : Word) (b : Byte) : Word :=
  [7, 6, 5, 4, 3, 2, 1, 0].foldl (fun r k => crcBit r (b.getLsbD k)) reg

/-- The check value of a sequence of bytes. -/
def crc (bytes : List Byte) : Word := bytes.foldl crcByte 0xFFFF

/-! ## Frames (R6 to R9, section 12.6) -/

/-- The value every frame begins with (R6). -/
def syncByte : Byte := 0xC6

/-- The bytes the check covers (R10): HEADER, OBJECT, LENGTH, PAYLOAD. -/
def coveredBytes (header object : Byte) (payload : List Byte) : List Byte :=
  header :: object :: BitVec.ofNat 8 payload.length :: payload

/-- The frame with these fields and its check as built (R68). -/
def buildFrame (header object : Byte) (payload : List Byte) : Frame :=
  { header, object, payload, check := crc (coveredBytes header object payload) }

/-- The bytes of a frame in the order sent, SYNC to CHECK, the check most significant byte first (R6, R10). -/
def Frame.bytes (f : Frame) : List Byte :=
  syncByte :: (coveredBytes f.header f.object f.payload ++ [f.check.hiByte, f.check.loByte])

/-- A frame of L payload bytes lasts 10(6 + L) bt (R6). -/
def Frame.bits (f : Frame) : Nat := 10 * (6 + f.payload.length)

/-- HEADER: kind or status in bits 7:6, address in bits 5:0 (section 12.6). -/
def headerByte (kind addr : Nat) : Byte := (BitVec.ofNat 2 kind ++ BitVec.ofNat 6 addr : BitVec (2 + 6))

/-- The six bytes of an identity, most significant first (R16). -/
def identBytes (i : Ident) : List Byte :=
  [i.extractLsb' 40 8, i.extractLsb' 32 8, i.extractLsb' 24 8, i.extractLsb' 16 8, i.extractLsb' 8 8, i.extractLsb' 0 8]

/-- The check value of an identity: the sum of its six bytes modulo 256 (R16). -/
def identCheck (i : Ident) : Byte := (identBytes i).foldl (· + ·) 0

def pollFrame (addr : Nat) (object : Byte) : Frame := buildFrame (headerByte 0 addr) object []
def writeFrame (addr : Nat) (object : Byte) (data : List Byte) : Frame := buildFrame (headerByte 1 addr) object data
/-- ASSIGN, to address 0: the identity, then the new address (R7). -/
def assignFrame (i : Ident) (addr : Nat) : Frame := buildFrame (headerByte 2 0) 0 (identBytes i ++ [BitVec.ofNat 8 addr])
/-- BEACON, to address 63, with the cycle number, most significant byte first (R8). -/
def beaconFrame (cycle : Word) : Frame := buildFrame (headerByte 3 63) 0 [cycle.hiByte, cycle.loByte]
def contendFrame : Frame := buildFrame (headerByte 3 0) 1 []
def restartFrame : Frame := buildFrame (headerByte 3 0) 2 []
/-- RELEASE with mode 0 (reply wanted) or 1 (silent) (R8). -/
def releaseFrame (addr : Nat) (mode : Byte) : Frame := buildFrame (headerByte 3 addr) 3 [mode]

/-- The level of bit time `pos` of a byte: start bit dominant, data least significant bit first with 0 dominant, stop
bit recessive (R4). -/
def byteLevel (b : Byte) (pos : Nat) : Level :=
  if pos = 0 then .dominant
  else if pos = 9 then .recessive
  else if b.getLsbD (pos - 1) then .recessive else .dominant

/-- The level the controller drives in bit time `i` of a frame, recessive once its last stop bit is over (R2, R4, R6). -/
def Frame.level (f : Frame) (i : Nat) : Level :=
  if i < f.bits then byteLevel (f.bytes.getD (i / 10) 0) (i % 10) else .recessive

/-! ## Reservations (R15) -/

/-- A transaction with reply. -/
def exchangeReservation (lc lr rw : Nat) : Nat := 124 + 10 * (lc + lr) + rw
/-- A contention round. -/
def roundReservation (rw : Nat) : Nat := 388 + rw
/-- The beacon. -/
def beaconReservation : Nat := 84
/-- The closing gap (R14). -/
def closingGap : Nat := 4
/-- The 56 slots of 2 bt (R17, R18). -/
def slotBits : Nat := 112

/-- The reservation of a claim (R61). -/
def Claim.reservation (c : Claim) (rw : Nat) : Nat := exchangeReservation c.lc c.lr rw

/-- The reply deadline, counted from the first bit of the command frame (R13).  The command's payload length is that of the
frame built; for a WRITE entry whose mailbox holds fewer than L bytes it is below the claim's Lc (DESIGN CHOICE, log 28). -/
def Record.deadline (r : Record) (rw : Nat) : Nat := r.frame.bits + rw + 10 * (6 + r.lr)

/-- Whether the frame now or last sent expects a reply: POLL, WRITE, ASSIGN and RELEASE with mode 0 (R12). -/
def Record.expectsReply (r : Record) : Bool :=
  match r.part with
  | .single => r.exchange.isSome
  | .assign => true
  | .contend | .slots | .restart | .release => false

/-- The identity heard in the slots: slots 1 to 48 (R17). -/
def Record.heardIdentity (r : Record) : Ident := r.heard.extractLsb' 8 48
/-- The check heard in the slots: slots 49 to 56 (R17). -/
def Record.heardCheck (r : Record) : Byte := r.heard.extractLsb' 0 8

/-! ## Received bytes and the judging of a reply (R5, R73, R74) -/

/-- The value of a received byte: its eight data bits, 1 where the sample is recessive (R4, R5). -/
def RxByte.value (b : RxByte) : Byte := b.extractLsb' 1 8

/-- A byte passes framing when its start bit samples dominant and its stop bit recessive (R5). -/
def RxByte.framed (b : RxByte) : Bool := !b.getLsbD 0 && b.getLsbD 9

/-- The LENGTH byte as sampled (R13). -/
def rxLength (bytes : List RxByte) : Nat := (bytes.map RxByte.value).getD 3 0 |>.toNat

/-- The reply deadlines and the end as declared agree on the number of bytes received: 6 + LENGTH (R11, R13). -/
def rxComplete (bytes : List RxByte) : Bool := bytes.length == 6 + rxLength bytes

/-- Every byte passes framing and the first is SYNC (R5). -/
def rxFramed (bytes : List RxByte) : Bool :=
  bytes.all RxByte.framed && (bytes.map RxByte.value).getD 0 0 == syncByte

/-- The CHECK received equals the check over HEADER to PAYLOAD as sampled (R10). -/
def rxCheckPasses (bytes : List RxByte) : Bool :=
  let v := bytes.map RxByte.value
  let n := rxLength bytes
  crc ((v.drop 1).take (3 + n)) == (v.getD (4 + n) 0 ++ v.getD (5 + n) 0 : BitVec (8 + 8))

def rxHeader (bytes : List RxByte) : Byte := (bytes.map RxByte.value).getD 1 0
def rxObject (bytes : List RxByte) : Byte := (bytes.map RxByte.value).getD 2 0
def rxPayload (bytes : List RxByte) : List Byte := ((bytes.map RxByte.value).drop 4).take (rxLength bytes)

/-- The status a reply's HEADER carries (R11). -/
def rxStatus (bytes : List RxByte) : ReplyStatus :=
  match ((rxHeader bytes).extractLsb' 6 2).toNat with
  | 0 => .ok
  | 1 => .busy
  | 2 => .noObject
  | _ => .refused

/-- The source address a reply's HEADER carries (R11). -/
def rxSource (bytes : List RxByte) : Nat := ((rxHeader bytes).extractLsb' 0 6).toNat

/-- An accepted reply's outcome (R74) and what is kept of it (R73): the payload for OK to a POLL. -/
def acceptReply (r : Record) (bytes : List RxByte) : LineOutcome × Reply :=
  let n := rxLength bytes
  match rxStatus bytes with
  | .ok =>
    let kept : Reply := { status := .ok, length := n, payload := rxPayload bytes }
    match r.compare with
    | some i => (if rxPayload bytes = identBytes i then .ok else .identityMismatch, kept)
    | none => (.ok, kept)
  | st => (.nak, { status := st, length := n })

/-- Checks 2 to 5 of reply acceptance, in order (R73). -/
def judgeReply (r : Record) (bytes : List RxByte) : LineOutcome × Reply :=
  if !(rxFramed bytes && rxCheckPasses bytes) then (.checkError, {})
  else if some (rxSource bytes) ≠ r.source then (.addressMismatch, {})
  else if rxObject bytes ≠ r.frame.object then (.checkError, {})
  else if r.lr < rxLength bytes then (.lengthError, {})
  else acceptReply r bytes

/-- The three classes of outcome at the Roster (R25, R75). -/
inductive OutcomeClass where
  | success | failure | neutral
  deriving DecidableEq, Repr

/-- The class of an attempt's outcome (R25).  The outcomes that no attempt has (R143) count as neutral. -/
def LineOutcome.classify : LineOutcome → OutcomeClass
  | .ok | .nak | .identityMismatch => .success
  | .timeout | .checkError | .lengthError | .addressMismatch => .failure
  | .lineError | .aborted => .neutral
  | .noStation | .tooLong | .stopped | .sweepBusy | .tableFull | .noisy | .windowTooShort | .cancelled => .neutral

/-- The outcomes after which an owner may make a further attempt (R75). -/
def LineOutcome.retryable : LineOutcome → Bool
  | .timeout | .checkError | .lengthError => true
  | _ => false

end Sys2Proof.Machine
end

