-- ==== Sys2Proof/Machine/Operands.lean ====
section
/-! DEFINITION. The operand forms: what each command reads from its registers and stages, and the codes in which
states, outcomes and results are shown (section 12.2 to 12.5, R178 to R180). -/

namespace Sys2Proof.Machine

open Sys2Proof

/-! ## Value encodings (section 12.3, section 12.4) -/

def StationState.code : StationState → Nat
  | .free => 0 | .reserved => 1 | .joining => 2 | .active => 3 | .suspect => 4 | .lost => 5

def SchedStatus.code : SchedStatus → Nat
  | .disabled => 0 | .waiting => 1 | .due => 2 | .inFlight => 3 | .held => 4 | .starved => 5

def ReqKind.code : ReqKind → Nat
  | .read => 0 | .write => 1 | .probe => 2 | .release => 3 | .discover => 4

/-- The kind a stage byte names; a byte of 5 or more names none (R180). -/
def ReqKind.ofCode : Nat → Option ReqKind
  | 0 => some .read | 1 => some .write | 2 => some .probe | 3 => some .release | 4 => some .discover
  | _ => none

def ReplyStatus.code : ReplyStatus → Nat
  | .ok => 0 | .busy => 1 | .noObject => 2 | .refused => 3

def LineOutcome.code : LineOutcome → Nat
  | .ok => 0 | .nak => 1 | .timeout => 2 | .checkError => 3 | .lengthError => 4 | .addressMismatch => 5
  | .identityMismatch => 6 | .lineError => 7 | .noStation => 8 | .tooLong => 9 | .aborted => 10 | .stopped => 11
  | .sweepBusy => 12 | .tableFull => 13 | .noisy => 14 | .windowTooShort => 15 | .cancelled => 16

def ResultCode.code : ResultCode → Nat
  | .done => 0 | .notReady => 1 | .badState => 2 | .badArg => 3 | .queueFull => 4 | .dupTag => 5 | .tooLong => 6
  | .notFound => 7 | .inFlight => 8 | .empty => 9 | .busy => 10 | .idInUse => 11 | .entryEnabled => 12
  | .wrongDirection => 13 | .unknownCommand => 14

def RunState.code : RunState → Nat
  | .init => 0 | .off => 1 | .running => 2 | .draining => 3 | .faulted => 4 | .checking => 5

def Window.code : Window → Nat
  | .noWindow => 0 | .sched => 1 | .openWin => 2

def CheckResult.code : CheckResult → Nat
  | .none => 0 | .clear => 1 | .stuck => 2

/-! ## Byte packing (section 12.5) -/

/-- The data bytes held in words, the lower-numbered byte in bits 15:8. -/
def unpackBytes : List Word → List Byte
  | [] => []
  | w :: ws => w.hiByte :: w.loByte :: unpackBytes ws

/-- `n` words holding the bytes of a list, 0 beyond its end (R180). -/
def packBytes : Nat → List Byte → List Word
  | 0, _ => []
  | n + 1, bs => (bs.getD 0 0 ++ bs.getD 1 0 : BitVec (8 + 8)) :: packBytes n (bs.drop 2)

/-- The three words of an identity: class, serial high, serial low (section 12.5). -/
def identWords (i : Ident) : List Word := [i.extractLsb' 32 16, i.extractLsb' 16 16, i.extractLsb' 0 16]

/-- The identity that three words form (section 12.5). -/
def identOfWords (a b c : Word) : Ident := (a ++ b ++ c : BitVec (16 + 16 + 16))

/-- A table of `n` words from a list, 0 beyond its end. -/
def wordTable (n : Nat) (ws : List Word) : Table Word n :=
  (Table.fill n (0 : Word)).update fun i _ => ws.getD i 0

/-! ## What each command takes from the Host Port -/

/-- The five staged timing quantities as TIMING_LOAD reads them (R45, section 12.1). -/
def HostPort.stagedTiming (h : HostPort) : TimingSet :=
  { bitdiv := h.tBitdiv.toNat, tickdiv := h.tTickdiv.toNat, schedLen := h.tSched.toNat, openLen := h.tOpen.toNat,
    respWait := h.tResp.toNat }

/-- THRESH bits 3:0 (section 12.2). -/
def HostPort.stagedSuspectAt (h : HostPort) : Nat := (h.thresh.extractLsb' 0 4).toNat
/-- THRESH bits 7:4 (section 12.2). -/
def HostPort.stagedLostAt (h : HostPort) : Nat := (h.thresh.extractLsb' 4 4).toNat
/-- THRESH bits 11:8 (section 12.2). -/
def HostPort.stagedDiscRetries (h : HostPort) : Nat := (h.thresh.extractLsb' 8 4).toNat

/-- The address of the pin stage: the whole of word 0 (R180). -/
def HostPort.pinAddress (h : HostPort) : Nat := (h.pinStage.get 0 0).toNat
/-- The identity of the pin stage: words 1 to 3 (R180). -/
def HostPort.pinIdentity (h : HostPort) : Ident :=
  identOfWords (h.pinStage.get 1 0) (h.pinStage.get 2 0) (h.pinStage.get 3 0)

/-- The argument as the whole 16-bit value of ARG (R179). -/
def HostPort.argNat (h : HostPort) : Nat := h.arg.toNat

/-- The configured fields of a schedule entry from the schedule stage, copied as written; the live fields as SCHED_SET
leaves them (R106, section 12.5). -/
def HostPort.stagedEntry (h : HostPort) : SchedEntry :=
  { target := h.schedStage.get 0 0
    object := (h.schedStage.get 1 0).loByte
    direction := (h.schedStage.get 1 0).hiByte
    length := h.schedStage.get 2 0
    period := h.schedStage.get 3 0
    phase := h.schedStage.get 4 0
    retries := (h.schedStage.get 5 0).loByte
    policy := (h.schedStage.get 5 0).hiByte }

/-- The six words of the schedule stage layout that show an entry's configured fields (section 12.5). -/
def SchedEntry.configWords (e : SchedEntry) : List Word :=
  [e.target, (e.direction ++ e.object : BitVec (8 + 8)), e.length, e.period, e.phase,
    (e.policy ++ e.retries : BitVec (8 + 8))]

/-- The length of the put buffer: the whole of word 0 (R180). -/
def HostPort.putLength (h : HostPort) : Nat := (h.putBuf.get 0 0).toNat
/-- The first *length* data bytes of the put buffer (R128, R180). -/
def HostPort.putData (h : HostPort) : List Byte := (unpackBytes (h.putBuf.cells.drop 1)).take h.putLength

/-- The fields of the request stage as SUBMIT judges them (R134, section 12.5, R180). -/
structure StagedRequest where
  tag     : Nat
  kind    : Nat
  address : Nat
  object  : Nat
  length  : Nat
  retries : Nat
  payload : List Byte
  deriving DecidableEq, Repr

def HostPort.stagedRequest (h : HostPort) : StagedRequest :=
  { tag := (h.reqStage.get 0 0).toNat
    kind := (h.reqStage.get 1 0).loByte.toNat
    retries := (h.reqStage.get 1 0).hiByte.toNat
    address := (h.reqStage.get 2 0).loByte.toNat
    length := (h.reqStage.get 2 0).hiByte.toNat
    object := (h.reqStage.get 3 0).toNat
    payload := unpackBytes (h.reqStage.cells.drop 4) }

/-- The request record SUBMIT appends: the fields present for its kind, 0 for the others (R133, R134). -/
def StagedRequest.record (q : StagedRequest) (kind : ReqKind) : Request :=
  match kind with
  | .read =>
    { tag := q.tag, kind, address := q.address, object := BitVec.ofNat 8 q.object, length := q.length, retries := q.retries }
  | .write =>
    { tag := q.tag, kind, address := q.address, object := BitVec.ofNat 8 q.object, length := q.length, retries := q.retries,
      payload := q.payload.take q.length }
  | .probe => { tag := q.tag, kind, address := q.address, retries := q.retries }
  | .release => { tag := q.tag, kind, address := q.address, retries := q.retries }
  | .discover => { tag := q.tag, kind }

/-- The reservation of a request of this kind and length (R134, R15). -/
def requestReservation (kind : ReqKind) (length rw : Nat) : Nat :=
  match kind with
  | .read | .write => exchangeReservation length 0 rw
  | .probe => exchangeReservation 0 6 rw
  | .release => exchangeReservation 1 0 rw
  | .discover => roundReservation rw

/-- The reservation of a schedule entry (R104). -/
def SchedEntry.reservation (e : SchedEntry) (rw : Nat) : Nat := exchangeReservation e.length.toNat 0 rw

/-- The direction byte says READ (section 12.4). -/
def SchedEntry.isRead (e : SchedEntry) : Bool := e.direction == 0
/-- The direction byte says WRITE (section 12.4). -/
def SchedEntry.isWrite (e : SchedEntry) : Bool := e.direction == 1

/-- Enabled: WAITING, DUE, IN_FLIGHT or HELD (R104). -/
def SchedEntry.enabled (e : SchedEntry) : Bool :=
  match e.status with
  | .waiting | .due | .inFlight | .held => true
  | .disabled | .starved => false

/-- An address of a station (R9). -/
def stationAddress (a : Nat) : Bool := 1 ≤ a && a ≤ 60

end Sys2Proof.Machine
end

