-- ==== Sys2Proof/Machine/Flags.lean ====
section
/-! DEFINITION. The event flags and the interrupt (R174, R175), and the writes that change them. -/

namespace Sys2Proof.Machine

open Sys2Proof

/-- CQ: the completion queue holds a record (R145). -/
def State.cqFlag (s : State) : Bool := !s.req.completions.isEmpty
/-- CHG: the change list holds an address (R42). -/
def State.chgFlag (s : State) : Bool := !s.roster.changes.isEmpty
/-- FAULT: the run state is FAULTED or CHECKING (R162). -/
def State.faultFlag (s : State) : Bool := s.run.state == .faulted || s.run.state == .checking

/-- EVENT as read: the level flags as their conditions stand, the sticky flags as held, unassigned bits 0
(R174, section 12.2). -/
def State.eventWord (s : State) : Word :=
  bitAt s.cqFlag 0 ||| bitAt s.chgFlag 1 ||| bitAt s.faultFlag 2 ||| bitAt s.host.sticky.mbx 3
    ||| bitAt s.host.sticky.cyc 4 ||| bitAt s.host.sticky.starve 5 ||| bitAt s.host.sticky.checkDone 6
    ||| bitAt s.host.sticky.initDone 7 ||| bitAt s.host.sticky.drained 8

/-- ENABLE as read: nine enables, bits 15:9 zero (R175, R179). -/
def State.enableWord (s : State) : Word := s.host.enable.setWidth 16

/-- IRQ# is asserted while a flag of EVENT is set or asserted and its enable is set, and deasserted while RESET# is
asserted and throughout INIT (R175, R151). -/
def State.irqAsserted (s : State) : Bool :=
  s.eventWord &&& s.enableWord != 0 && !s.run.resetAsserted && s.run.state != .init

/-- The sticky flags after a write of 1 to some of their bits (R174). -/
def Sticky.cleared (f : Sticky) (w : Word) : Sticky :=
  { mbx := f.mbx && !w.getLsbD 3
    cyc := f.cyc && !w.getLsbD 4
    starve := f.starve && !w.getLsbD 5
    checkDone := f.checkDone && !w.getLsbD 6
    initDone := f.initDone && !w.getLsbD 7
    drained := f.drained && !w.getLsbD 8 }

def State.setSticky (s : State) (f : Sticky) : State := { s with host := { s.host with sticky := f } }

/-- MBX (R127). -/
def State.raiseMbx (s : State) : State := s.setSticky { s.host.sticky with mbx := true }
/-- CYC (R53). -/
def State.raiseCyc (s : State) : State := s.setSticky { s.host.sticky with cyc := true }
/-- STARVE (R110). -/
def State.raiseStarve (s : State) : State := s.setSticky { s.host.sticky with starve := true }
/-- CHECK_DONE (R160). -/
def State.raiseCheckDone (s : State) : State := s.setSticky { s.host.sticky with checkDone := true }
/-- INIT_DONE (R153). -/
def State.raiseInitDone (s : State) : State := s.setSticky { s.host.sticky with initDone := true }
/-- DRAINED (R162). -/
def State.raiseDrained (s : State) : State := s.setSticky { s.host.sticky with drained := true }

end Sys2Proof.Machine
end

