-- ==== Sys2Proof/Machine/Ops.lean ====
section
/-! DEFINITION. Named operations on the state that several commands share: the command mechanism, the Cycle Timer's
counters and windows, tables by number, the transaction record, completions. -/

namespace Sys2Proof.Machine

open Sys2Proof

/-! ## The command mechanism (R171, R172, R151, R153) -/

/-- RESULT and RESULT_VAL (R171). -/
def State.setResult (s : State) (code : ResultCode) (val : Nat) : State :=
  { s with host := { s.host with result := code, resultVal := BitVec.ofNat 16 val } }

/-- CMD (R171). -/
def State.setCmd (s : State) (code : Word) : State := { s with host := { s.host with cmd := code } }

/-- A write to CMD: ignored while RESET# is asserted (R151, log 26), refused NOT_READY during INIT with no state but the result
changed (R153), otherwise stored and handed to the owner (R171). -/
def State.command (s : State) (code : Word) (owner : State → State) : State :=
  if s.run.resetAsserted then s
  else if s.run.state = .init then s.setResult .notReady 0
  else owner (s.setCmd code)

/-- A bus write other than to CMD: ignored while RESET# is asserted (R151) and during INIT (R153). -/
def State.busWrite (s : State) (store : State → State) : State :=
  if s.run.resetAsserted || s.run.state == .init then s else store s

/-- One more free value has been used (log 7). -/
def State.nextFree (s : State) : State := { s with freeIndex := s.freeIndex + 1 }

/-! ## Cycle Timer (chapter 3) -/

/-- The length of the scheduled window in bit times (R47). -/
def TimingSet.schedBits (t : TimingSet) : Nat := t.schedLen * t.tickdiv
/-- The length of the open window in bit times (R47). -/
def TimingSet.openBits (t : TimingSet) : Nat := t.openLen * t.tickdiv

/-- The bit times left in the current window (R47, R54): 0 while it is NONE and once it has expired. -/
def CycleTimer.left (t : CycleTimer) : Nat :=
  match t.window with
  | .noWindow => 0
  | .sched | .openWin => if t.tickCount = 0 then 0 else (t.tickCount - 1) * t.inForce.tickdiv + t.prescaler

/-- The current window has expired and its end has not been taken (R47, R52). -/
def CycleTimer.expired (t : CycleTimer) : Bool := t.window != .noWindow && t.tickCount == 0

/-- The counters at the end of one bit time (R47). -/
def CycleTimer.tick (t : CycleTimer) : CycleTimer :=
  if t.window = .noWindow ∨ t.tickCount = 0 then t
  else if 1 < t.prescaler then { t with prescaler := t.prescaler - 1 }
  else if t.tickCount = 1 then { t with tickCount := 0, prescaler := 0 }
  else { t with tickCount := t.tickCount - 1, prescaler := t.inForce.tickdiv }

/-- A pending set comes into force (R50). -/
def CycleTimer.applyPending (t : CycleTimer) : CycleTimer :=
  if t.pendingPresent then { t with inForce := t.pendingSet, pendingPresent := false } else t

/-- The scheduled window opens (R47, R52). -/
def CycleTimer.openSched (t : CycleTimer) : CycleTimer :=
  { t with window := .sched, tickCount := t.inForce.schedLen, prescaler := t.inForce.tickdiv }

/-- The open window opens (R47, R52). -/
def CycleTimer.openOpen (t : CycleTimer) : CycleTimer :=
  { t with window := .openWin, tickCount := t.inForce.openLen, prescaler := t.inForce.tickdiv }

/-- The window becomes NONE at once (R58). -/
def CycleTimer.close (t : CycleTimer) : CycleTimer := { t with window := .noWindow, tickCount := 0, prescaler := 0 }

/-- The timer's own part of a cycle start, in its order (R53, R55). -/
def CycleTimer.cycleStart (t : CycleTimer) : CycleTimer :=
  { t with cycle := t.cycle + 1 }.applyPending.openSched

/-- RESP_WAIT in force. -/
def State.rw (s : State) : Nat := s.timer.inForce.respWait

/-! ## Tables by number -/

/-- The station-table entry of an address; a FREE one for what is no station's address (R21). -/
def Roster.entry (r : Roster) (a : Nat) : StationEntry := if stationAddress a then r.table.get (a - 1) {} else {}

/-- The entry of an address replaced. -/
def Roster.setEntry (r : Roster) (a : Nat) (e : StationEntry) : Roster :=
  if stationAddress a then { r with table := r.table.set (a - 1) e } else r

/-- Schedule entry `n` (R104). -/
def State.entry (s : State) (n : Nat) : SchedEntry := s.sched.entries.get n {}
def State.setEntry (s : State) (n : Nat) (e : SchedEntry) : State :=
  { s with sched := { s.sched with entries := s.sched.entries.set n e } }

/-- Every schedule entry replaced by a function of its number and itself. -/
def State.updateEntries (s : State) (f : Nat → SchedEntry → SchedEntry) : State :=
  { s with sched := { s.sched with entries := s.sched.entries.update f } }

/-- Mailbox `n` (R121). -/
def State.mailbox (s : State) (n : Nat) : Mailbox := s.sched.mailboxes.get n {}
def State.setMailbox (s : State) (n : Nat) (m : Mailbox) : State :=
  { s with sched := { s.sched with mailboxes := s.sched.mailboxes.set n m } }

/-! ## Claims and the record in flight (R61, R62) -/

def State.setRecord (s : State) (r : Option Record) : State := { s with line := { s.line with record := r } }
def State.setSchedClaim (s : State) (c : Option Claim) : State := { s with line := { s.line with schedClaim := c } }
def State.setReqClaim (s : State) (c : Option Claim) : State := { s with line := { s.line with reqClaim := c } }
def State.setRoundClaim (s : State) (b : Bool) : State := { s with line := { s.line with roundClaim := b } }
def State.setBeaconPending (s : State) (b : Bool) : State := { s with line := { s.line with beaconPending := b } }
def State.setEchoCount (s : State) (n : Nat) : State := { s with line := { s.line with echoCount := n } }
def State.setBoundary (s : State) (b : Bool) : State := { s with line := { s.line with boundary := b } }
def State.setRunState (s : State) (x : RunState) : State := { s with run := { s.run with state := x } }
def State.setTimer (s : State) (t : CycleTimer) : State := { s with timer := t }
def State.setRoster (s : State) (r : Roster) : State := { s with roster := r }
def State.setDisc (s : State) (d : Discovery) : State := { s with disc := d }

/-- An attempt of schedule entry `n` is on the line (R108, R128). -/
def State.entryOnLine (s : State) (n : Nat) : Bool :=
  match s.line.record with
  | some r => r.owner == .claim (.scheduler n)
  | none => false

/-- The level the controller drives: LTX is asserted only in SENDING, for the dominant bits of the frame, and is released
once the last bit is over (R2, R62). -/
def State.ltx (s : State) : Level :=
  match s.line.record with
  | some r => if r.phase = .sending then r.frame.level r.phaseTime else .recessive
  | none => .recessive

/-- The record enters CLOSING with its outcome, on or off the bit-time grid (R63). -/
def Record.close (r : Record) (o : Option LineOutcome) (offGrid : Bool) : Record :=
  { r with phase := .closing, outcome := o, phaseTime := 0, offGrid }

/-! ## Completions (R135, R142, R144) -/

/-- A completion record is written: appended at the tail, its reservation turned into the record (R135, R144). -/
def State.writeCompletion (s : State) (c : Completion) : State :=
  { s with req := { s.req with completions := s.req.completions ++ [c], reservations := s.req.reservations - 1 } }

/-- The completion of a request (R142, R143): the reply's status for OK, NAK and IDENTITY_MISMATCH, its length and
payload for OK to a READ and for OK or IDENTITY_MISMATCH to a PROBE.  A DISCOVER that completes TOO_LONG or SWEEP_BUSY has no
sweep of its own: its sweep counts are 0 (DEDUCED, log 30). -/
def Request.completion (q : Request) (o : LineOutcome) (attempts : Nat) (reply : Reply) : Completion :=
  let base : Completion := { tag := q.tag, kind := q.kind, address := q.address, outcome := o, attempts }
  match o with
  | .ok | .identityMismatch =>
    if (q.kind = .read ∧ o = .ok) ∨ q.kind = .probe then
      { base with status := reply.status, length := reply.length, payload := reply.payload }
    else { base with status := reply.status }
  | .nak => { base with status := reply.status }
  | _ => base

/-- The head request completes: its completion is written, it leaves the queue, and the record behind it, if any,
becomes an UNTAKEN head (R144). -/
def State.completeHead (s : State) (o : LineOutcome) (attempts : Nat) (reply : Reply) : State :=
  match s.req.queue with
  | [] => s
  | q :: rest =>
    let s := s.writeCompletion (q.completion o attempts reply)
    { s with req := { s.req with queue := rest, head := .untaken } }

/-- Whether the run state is RUNNING and the current window SCHED: when the Scheduler chooses (R113). -/
def State.scheduling (s : State) : Bool := s.run.state == .running && s.timer.window == .sched

end Sys2Proof.Machine
end

