-- ==== Sys2Proof/Machine/Roster.lean ====
section
/-! DEFINITION. The Station Roster (chapter 2): the change list, identities, health, release, admission, and the Roster's
commands. -/

namespace Sys2Proof.Machine

open Sys2Proof

/-! ## The change list (R40) -/

/-- A station's address is added at the tail, unless it is on the list already (R40). -/
def Roster.addChange (r : Roster) (a : Nat) : Roster :=
  if a ∈ r.changes ∨ stationAddress a = false then r else { r with changes := r.changes ++ [a] }

/-- An entry replaced and its address added to the change list, in one claim (R40). -/
def Roster.change (r : Roster) (a : Nat) (e : StationEntry) : Roster := (r.setEntry a e).addChange a

/-! ## Identities and the issuable test (R23, R24) -/

/-- ACTIVE or SUSPECT (R23). -/
def StationEntry.issuable (e : StationEntry) : Bool :=
  match e.state with
  | .active | .suspect => true
  | .free | .reserved | .joining | .lost => false

/-- Whether an address is issuable (R23). -/
def Roster.issuable (r : Roster) (a : Nat) : Bool := (r.entry a).issuable

/-- ACTIVE, SUSPECT or LOST: the entries a RELEASE is sent to (R137, R141). -/
def Roster.releasable (r : Roster) (a : Nat) : Bool := r.issuable a || (r.entry a).state == .lost

/-- The addresses in rising order. -/
def stationAddresses : List Nat := List.range' 1 60

/-- The identity lookup (R24): the address whose entry, not FREE, holds the identity; none for identity 0.  It is computed
from the table (log 15). -/
def Roster.lookup (r : Roster) (i : Ident) : Option Nat :=
  if i = 0 then none
  else stationAddresses.find? fun a => (r.entry a).state != .free && (r.entry a).identity == i

/-- The lowest-numbered FREE entry (R32). -/
def Roster.lowestFree (r : Roster) : Option Nat := stationAddresses.find? fun a => (r.entry a).state == .free

/-! ## Attempt outcomes (R25 to R31) -/

/-- What release leaves of an entry: FREE with every field 0, or RESERVED keeping identity and pinned (R29).  The prior
state, meaningless outside JOINING, is kept with a RESERVED entry (log 11). -/
def StationEntry.released (e : StationEntry) : StationEntry :=
  if e.pinned then { state := .reserved, pinned := true, identity := e.identity, prior := e.prior } else {}

/-- The state after a failure brings the count to `n` (R27). -/
def Roster.stateAfterFailure (r : Roster) (st : StationState) (n : Nat) : StationState :=
  if r.lostAt ≤ n then .lost
  else if st = .active ∧ r.suspectAt ≤ n then .suspect
  else st

/-- A successful attempt on an ACTIVE or SUSPECT entry (R26, R28). -/
def Roster.success (r : Roster) (a : Nat) (o : LineOutcome) (cycle : Word) : Roster :=
  let e := r.entry a
  let e' := { e with state := .active, failures := 0, replied := true, lastReply := cycle,
                     conflict := e.conflict || o == .identityMismatch }
  if e.state = .suspect ∨ o = .identityMismatch then r.change a e' else r.setEntry a e'

/-- A failed attempt on an ACTIVE or SUSPECT entry (R27, R28). -/
def Roster.failure (r : Roster) (a : Nat) (o : LineOutcome) : Roster :=
  let e := r.entry a
  let n := satSucc 15 e.failures
  let st := r.stateAfterFailure e.state n
  let e' := { e with state := st, failures := n, errorTotal := satSucc 65535 e.errorTotal,
                     conflict := e.conflict || o == .addressMismatch }
  if st ≠ e.state ∨ o = .addressMismatch then r.change a e' else r.setEntry a e'

/-- The outcome of an attempt reaches the Roster (R25 to R31); `release`: the attempt is of a RELEASE request. -/
def Roster.deliver (r : Roster) (release : Bool) (o : LineOutcome) (a : Nat) (cycle : Word) : Roster :=
  match (r.entry a).state with
  | .active | .suspect =>
    if release && o == .ok then r.change a (r.entry a).released
    else match o.classify with
      | .success => r.success a o cycle
      | .failure => r.failure a o
      | .neutral => r
  | .lost => if release && o != .aborted then r.change a (r.entry a).released else r
  | .free | .reserved | .joining => r

/-! ## Admission, settlement, reversion (R32 to R34) -/

/-- The Roster's answer to an admission claim and the table after it (R32); no address is TABLE_FULL. -/
def Roster.admission (r : Roster) (i : Ident) : Option Nat × Roster :=
  match r.lookup i with
  | some a => (some a, r.change a { r.entry a with state := .joining, prior := (r.entry a).state })
  | none =>
    match r.lowestFree with
    | some a => (some a, r.change a { r.entry a with state := .joining, prior := (r.entry a).state, identity := i })
    | none => (none, r)

/-- Whether a prior state counts its station as new: FREE or RESERVED (R33, R93). -/
def StationState.isNew (st : StationState) : Bool := st == .free || st == .reserved

/-- A JOINING entry after settlement, clean or with conflict (R33). -/
def StationEntry.settled (e : StationEntry) (clean : Bool) (cycle : Word) : StationEntry :=
  { e with
    state := .active
    failures := 0
    errorTotal := if e.prior.isNew then 0 else e.errorTotal
    rejoins := if e.prior.isNew then 0 else satSucc 255 e.rejoins
    replied := e.replied || clean
    lastReply := if clean then cycle else e.lastReply
    conflict := e.conflict || !clean }

/-- Settlement of the JOINING entry at an address, and the prior state returned (R33). -/
def Roster.settle (r : Roster) (a : Nat) (clean : Bool) (cycle : Word) : StationState × Roster :=
  ((r.entry a).prior,
    if (r.entry a).state = .joining then r.change a ((r.entry a).settled clean cycle) else r)

/-- A JOINING entry after reversion (R34). -/
def StationEntry.reverted (e : StationEntry) : StationEntry :=
  if e.prior = .free then {} else { e with state := e.prior }

/-- Reversion of the JOINING entry at an address (R34). -/
def Roster.revert (r : Roster) (a : Nat) : Roster :=
  if (r.entry a).state = .joining then r.change a (r.entry a).reverted else r

/-! ## The Roster's commands (R35 to R41) -/

/-- The entries after an accepted THRESH_LOAD (R35). -/
def StationEntry.rethresholded (e : StationEntry) : StationEntry :=
  match e.state with
  | .active | .suspect => { e with state := .active, failures := 0 }
  | .free | .reserved | .joining | .lost => e

/-- The addresses of the SUSPECT entries, in rising order of a rank (log 27). -/
def Roster.suspects (r : Roster) (rank : Nat → Nat) : List Nat :=
  (stationAddresses.filter fun a => (r.entry a).state == .suspect).insertionSort fun a b => rank a ≤ rank b

/-- An accepted THRESH_LOAD (R35): every SUSPECT entry becomes ACTIVE and its address is added to the change list. -/
def Roster.loadThresholds (r : Roster) (suspectAt lostAt discRetries : Nat) (rank : Nat → Nat) : Roster :=
  (r.suspects rank).foldl Roster.addChange
    { r with suspectAt, lostAt, discRetries, table := r.table.update fun _ e => e.rethresholded }

/-- The staged thresholds are in range (R35). -/
def HostPort.thresholdsValid (h : HostPort) : Bool :=
  1 ≤ h.stagedSuspectAt && h.stagedSuspectAt ≤ 15 && h.stagedSuspectAt ≤ h.stagedLostAt && h.stagedLostAt ≤ 15
    && 1 ≤ h.stagedDiscRetries && h.stagedDiscRetries ≤ 7

/-- THRESH_LOAD at the Roster (R35). -/
def State.threshLoad (s : State) : State :=
  if s.run.state ≠ .off then s.setResult .badState 0
  else if s.host.thresholdsValid then
    let r := s.roster.loadThresholds s.host.stagedSuspectAt s.host.stagedLostAt s.host.stagedDiscRetries
      (Config.suspectRank s.freeIndex)
    (s.setRoster r).nextFree.setResult .done 0
  else s.setResult .badArg 0

/-- PIN at the Roster: the checks in order (R36). -/
def State.pin (s : State) : State :=
  let a := s.host.pinAddress
  let i := s.host.pinIdentity
  let e := s.roster.entry a
  if i = 0 ∨ stationAddress a = false then s.setResult .badArg 0
  else if e.state = .joining then s.setResult .busy 0
  else if (s.roster.lookup i).any (fun b => b != a) then s.setResult .idInUse 0
  else if e.state = .free then
    (s.setRoster (s.roster.change a { e with state := .reserved, pinned := true, identity := i })).setResult .done 0
  else if e.identity = i then (s.setRoster (s.roster.setEntry a { e with pinned := true })).setResult .done 0
  else s.setResult .idInUse 0

/-- UNPIN at the Roster (R37). -/
def State.unpin (s : State) : State :=
  let a := s.host.argNat
  let e := s.roster.entry a
  if stationAddress a = false then s.setResult .badArg 0
  else match e.state with
    | .joining => s.setResult .busy 0
    | .free => s.setResult .notFound 0
    | .reserved => (s.setRoster (s.roster.change a {})).setResult .done 0
    | .active | .suspect | .lost => (s.setRoster (s.roster.setEntry a { e with pinned := false })).setResult .done 0

/-- CLEAR_CONFLICT at the Roster (R38). -/
def State.clearConflict (s : State) : State :=
  let a := s.host.argNat
  let e := s.roster.entry a
  if stationAddress a = false then s.setResult .badArg 0
  else match e.state with
    | .joining => s.setResult .busy 0
    | .free => s.setResult .notFound 0
    | .reserved | .active | .suspect | .lost =>
      (s.setRoster (s.roster.setEntry a { e with conflict := false })).setResult .done 0

/-- POP_CHANGE at the Roster (R41). -/
def State.popChange (s : State) : State :=
  match s.roster.changes with
  | [] => s.setResult .empty 0
  | a :: rest => (s.setRoster { s.roster with changes := rest }).setResult .done a

/-- The thresholds in force in the THRESH layout (section 12.2). -/
def Roster.threshWord (r : Roster) : Word :=
  (BitVec.ofNat 4 0 ++ BitVec.ofNat 4 r.discRetries ++ BitVec.ofNat 4 r.lostAt ++ BitVec.ofNat 4 r.suspectAt
    : BitVec (4 + 4 + 4 + 4))

/-- The snapshot of a station-table entry (R39, section 12.5): word 0 kind 1:0 = 1, address 13:8; word 1 state 2:0,
pinned 4, conflict 5, replied 6, prior state 10:8. -/
def Roster.snapWords (r : Roster) (a : Nat) : List Word :=
  let e := r.entry a
  [pairWord a 1,
    pairWord e.prior.code e.state.code ||| bitAt e.pinned 4 ||| bitAt e.conflict 5 ||| bitAt e.replied 6]
  ++ identWords e.identity
  ++ [BitVec.ofNat 16 e.failures, BitVec.ofNat 16 e.errorTotal, BitVec.ofNat 16 e.rejoins, e.lastReply, r.threshWord, 0, 0]

def State.setSnap (s : State) (ws : List Word) : State :=
  { s with host := { s.host with snap := wordTable 12 ws } }

/-- STATION_SNAP at the Roster (R39). -/
def State.stationSnap (s : State) : State :=
  let a := s.host.argNat
  if stationAddress a then (s.setSnap (s.roster.snapWords a)).setResult .done (s.roster.entry a).state.code
  else s.setResult .badArg 0

/-! ## Meanings -/

def execThreshLoad (s : State) : Answer := .next (s.command 0x20 State.threshLoad)
def execPin (s : State) : Answer := .next (s.command 0x21 State.pin)
def execUnpin (s : State) : Answer := .next (s.command 0x22 State.unpin)
def execClearConflict (s : State) : Answer := .next (s.command 0x23 State.clearConflict)
def execPopChange (s : State) : Answer := .next (s.command 0x24 State.popChange)
def execStationSnap (s : State) : Answer := .next (s.command 0x25 State.stationSnap)

end Sys2Proof.Machine
end

