-- ==== Sys2Proof/Machine/Discovery.lean ====
section
/-! DEFINITION. The Discovery Unit (chapter 5): sweeps, the decision on what the slots held, the ASSIGN outcome, and the
ends of rounds and sweeps. -/

namespace Sys2Proof.Machine

open Sys2Proof

/-! ## Sweeps (R84, R85, R96) -/

/-- A sweep runs: SWEEPING or ROUND (R83). -/
def Discovery.active : Discovery → Bool
  | .idle => false
  | .sweeping _ | .inRound _ _ => true

/-- The tag of the running sweep (R83). -/
def Discovery.tag : Discovery → Option Nat
  | .idle => none
  | .sweeping sw | .inRound sw _ => some sw.tag

/-- The window check (R85). -/
def State.windowCheck (s : State) : Bool := roundReservation s.rw ≤ s.timer.inForce.openBits

/-- The completion of a sweep (R96, R142). -/
def Sweep.completion (sw : Sweep) (o : LineOutcome) : Completion :=
  { tag := sw.tag, kind := .discover, outcome := o, newStations := sw.newStations, rejoined := sw.rejoined,
    rounds := sw.rounds, totalNoisy := sw.totalNoisy }

/-- A sweep ends: its claim is withdrawn, its record cleared, its completion written with its reservation (R96). -/
def State.endSweep (s : State) (sw : Sweep) (o : LineOutcome) : State :=
  ((s.setRoundClaim false).setDisc .idle).writeCompletion (sw.completion o)

/-- The unit is about to place a ROUND claim, or has it placed: the window check decides (R85). -/
def State.placeRound (s : State) (sw : Sweep) : State :=
  if s.windowCheck then (s.setDisc (.sweeping sw)).setRoundClaim true else s.endSweep sw .windowTooShort

/-- An IDLE unit accepts a DISCOVER request (R84). -/
def State.acceptSweep (s : State) (tag : Nat) : State := s.placeRound { tag }

/-- A cycle start reaches the unit; `applied`: it applied a pending set (R85). -/
def State.discCycleStart (s : State) (applied : Bool) : State :=
  match s.disc with
  | .sweeping sw => if applied && s.line.roundClaim then s.placeRound sw else s
  | .idle | .inRound _ _ => s

/-- A SWEEPING sweep ends at once, by CANCEL (R98), STOP (R99), HALT (R100) or a fault (R102). -/
def State.endSweeping (s : State) (o : LineOutcome) : State :=
  match s.disc with
  | .sweeping sw => s.endSweep sw o
  | .idle | .inRound _ _ => s

/-! ## A round (R87 to R94) -/

/-- The ROUND claim is granted (R87). -/
def State.discGranted (s : State) : State :=
  match s.disc with
  | .sweeping sw => s.setDisc (.inRound { sw with rounds := satSucc 65535 sw.rounds } {})
  | .idle | .inRound _ _ => s

/-- The unit's phase moves on with the line (R87). -/
def State.discPhase (s : State) (p : RoundPhase) : State :=
  match s.disc with
  | .inRound sw rd => s.setDisc (.inRound sw { rd with phase := p })
  | .idle | .sweeping _ => s

/-- One more noisy round (R89, R101); the consecutive count stops at its top, 7 (log 9). -/
def Sweep.noisier (sw : Sweep) : Sweep :=
  { sw with consecutiveNoisy := satSucc 7 sw.consecutiveNoisy, totalNoisy := satSucc 255 sw.totalNoisy }

/-- The decision at 176 (R88 to R90): the ending answered, as what follows the gap, and the state after. -/
def State.discDecide (s : State) (ident : Ident) (check : Byte) : AfterGap × State :=
  match s.disc with
  | .inRound sw rd =>
    if check ≠ identCheck ident then
      (.restart, s.setDisc (.inRound sw.noisier { rd with phase := .closing, verdict := some .noisy }))
    else if ident = 0 then
      (.finish, s.setDisc (.inRound sw { rd with phase := .decide, verdict := some .empty }))
    else
      let sw := { sw with consecutiveNoisy := 0 }
      let (answer, roster) := s.roster.admission ident
      match answer with
      | some a =>
        (.assign ident a,
          (s.setRoster roster).setDisc (.inRound sw { rd with phase := .assignWait, address := a, verdict := some .valid }))
      | none =>
        (.restart, s.setDisc (.inRound sw { rd with phase := .closing, verdict := some .valid, tableFull := true }))
  | .idle | .sweeping _ => (.finish, s)

/-- A settlement counted by the prior state (R93). -/
def Sweep.counted (sw : Sweep) (prior : StationState) : Sweep :=
  if prior.isNew then { sw with newStations := satSucc 255 sw.newStations }
  else { sw with rejoined := satSucc 255 sw.rejoined }

/-- The outcome of the ASSIGN exchange is handed to the unit (R92 to R94): settled clean, settled with conflict, or
reverted. -/
def State.discAssignOutcome (s : State) (o : LineOutcome) : State :=
  match s.disc with
  | .inRound sw rd =>
    if o = .timeout then
      (s.setRoster (s.roster.revert rd.address)).setDisc (.inRound sw { rd with phase := .closing })
    else
      let (prior, roster) := s.roster.settle rd.address (o == .ok || o == .nak) s.timer.cycle
      (s.setRoster roster).setDisc (.inRound (sw.counted prior) { rd with phase := .closing })
  | .idle | .sweeping _ => s

/-- An echo error on a frame of the round is handed to the unit (R101): noisy counts, and reversion in ASSIGN_WAIT. -/
def State.discLineError (s : State) : State :=
  match s.disc with
  | .inRound sw rd =>
    let s := if rd.phase = .assignWait then s.setRoster (s.roster.revert rd.address) else s
    s.setDisc (.inRound sw.noisier { rd with phase := .closing })
  | .idle | .sweeping _ => s

/-- ABORTED is handed to the unit (R100): reversion in ASSIGN_WAIT. -/
def State.discAborted (s : State) : State :=
  match s.disc with
  | .inRound sw rd =>
    let s := if rd.phase = .assignWait then s.setRoster (s.roster.revert rd.address) else s
    s.setDisc (.inRound sw { rd with phase := .closing, aborted := true })
  | .idle | .sweeping _ => s

/-- The run state becomes FAULTED during a round (R102). -/
def State.discFaultSeen (s : State) : State :=
  match s.disc with
  | .inRound sw rd => s.setDisc (.inRound { sw with faultSeen := true } rd)
  | .idle | .sweeping _ => s

/-! ## The end of a round (R95) -/

/-- The outcome a sweep ends with at a round's end, by the first line that applies; none: it goes on unless the window
check fails (R95, orders 1 to 7). -/
def Sweep.courseAtRoundEnd (sw : Sweep) (rd : Round) (discRetries : Nat) (draining : Bool) : Option LineOutcome :=
  if sw.faultSeen then some .lineError
  else if rd.aborted then some .aborted
  else if rd.verdict = some .empty then some .ok
  else if rd.tableFull then some .tableFull
  else if discRetries ≤ sw.consecutiveNoisy then some .noisy
  else if sw.cancelRequested then some .cancelled
  else if draining then some .stopped
  else none

/-- The Line Sequencer tells the unit that the round has ended (R95); when a claim it places is seen: `State.roundClaimSeen`
(log 29). -/
def State.discRoundEnd (s : State) : State :=
  match s.disc with
  | .inRound sw rd =>
    match sw.courseAtRoundEnd rd s.roster.discRetries (s.run.state == .draining) with
    | some o => s.endSweep sw o
    | none => s.placeRound sw
  | .idle | .sweeping _ => s

end Sys2Proof.Machine
end

