-- ==== Sys2Proof/Machine/Requests.lean ====
section
/-! DEFINITION. The Request Engine (chapter 8): take-up of the head, claims, outcomes and retries, the retest at an open
window, leaving RUNNING, and the commands SUBMIT, CANCEL and POP_COMPLETION. -/

namespace Sys2Proof.Machine

open Sys2Proof

/-! ## Working on the head (R135 to R138) -/

/-- The head's condition and the claim placed for it. -/
def State.setHead (s : State) (h : HeadCondition) : State := { s with req := { s.req with head := h } }
/-- The count of completion reservations (R135). -/
def State.setReservations (s : State) (n : Nat) : State := { s with req := { s.req with reservations := n } }
def State.setQueue (s : State) (q : List Request) : State := { s with req := { s.req with queue := q } }

/-- The claim for one attempt of a request (R138).  A PROBE takes the compare identity as its entry holds it now. -/
def Request.claim (q : Request) (attempt : Nat) (roster : Roster) : Claim :=
  let base : Claim :=
    { owner := .request q.tag, exchange := .poll, dest := q.address, object := 0, lc := 0, lr := 0, attempt, compare := none }
  match q.kind with
  | .read => { base with object := q.object, lr := q.length }
  | .write => { base with exchange := .write, object := q.object, lc := q.length }
  | .probe => { base with lr := 6, compare := some (roster.entry q.address).identity }
  | .release => { base with exchange := .release, lc := 1 }
  | .discover => base

/-- The target passes: issuable for READ, WRITE and PROBE; ACTIVE, SUSPECT or LOST for RELEASE (R137, R139, R141). -/
def Request.targetPasses (q : Request) (roster : Roster) : Bool :=
  match q.kind with
  | .read | .write | .probe => roster.issuable q.address
  | .release => roster.releasable q.address
  | .discover => true

/-- The reservation no longer fits the open window in force (R137, R139). -/
def State.tooLong (s : State) (q : Request) : Bool :=
  s.timer.inForce.openBits < requestReservation q.kind q.length s.rw

/-- The course of a head taken up (R137). -/
inductive HeadCourse where
  | complete (o : LineOutcome)
  | sweep
  | claim
  deriving DecidableEq, Repr

/-- The head checks in order (R137). -/
def State.headCourse (s : State) (q : Request) : HeadCourse :=
  if !q.targetPasses s.roster then .complete .noStation
  else if s.tooLong q then .complete .tooLong
  else if q.kind = .discover then (if s.disc.active then .complete .sweepBusy else .sweep)
  else .claim

/-- The engine takes up an UNTAKEN head: RUNNING, and room for one more reservation (R136). -/
def State.mayTakeUp (s : State) : Bool :=
  s.run.state == .running && s.req.head == .untaken && s.req.completions.length + s.req.reservations < 16

/-- The head is taken up, and again the head behind it while each leaves the queue at once (R136, R137, R84). -/
def State.takeUpFuel : Nat → State → State
  | 0, s => s
  | n + 1, s =>
    match s.req.queue with
    | [] => s
    | q :: rest =>
      if s.mayTakeUp then
        let s := s.setReservations (s.req.reservations + 1)
        match s.headCourse q with
        | .complete o => State.takeUpFuel n (s.completeHead o 0 {})
        | .sweep => State.takeUpFuel n ((s.setQueue rest).acceptSweep q.tag)
        | .claim => (s.setReqClaim (some (q.claim 1 s.roster))).setHead .claimed
      else s

/-- The engine examines its head for take-up (R136). -/
def State.takeUp (s : State) : State := s.takeUpFuel s.req.queue.length

/-- The head completes, its claim if any is withdrawn, and the record behind it is examined (R144). -/
def State.finishHead (s : State) (o : LineOutcome) (attempts : Nat) (reply : Reply) : State :=
  ((s.setReqClaim none).completeHead o attempts reply).takeUp

/-! ## Attempts and retries (R140, R141) -/

/-- The claim is granted: the head is IN_FLIGHT with its attempt on the line (R140). -/
def State.reqGranted (s : State) : State := s.setHead .onLine

/-- The outcome of an attempt reaches the engine (R140, R141). -/
def State.reqOutcome (s : State) (o : LineOutcome) (attempt : Nat) (reply : Reply) : State :=
  match s.req.queue with
  | [] => s
  | q :: _ =>
    if o.retryable && attempt < 1 + q.retries && s.run.state == .running && q.targetPasses s.roster then
      (s.setReqClaim (some (q.claim (attempt + 1) s.roster))).setHead (.retryWaiting o attempt)
    else s.finishHead o attempt reply

/-! ## The opening of an open window (R139) -/

/-- The head is tested again when an open window opens (R139). -/
def State.reqWindowOpens (s : State) : State :=
  match s.req.queue with
  | [] => s
  | q :: _ =>
    match s.req.head with
    | .claimed =>
      if !q.targetPasses s.roster then s.finishHead .noStation 0 {}
      else if s.tooLong q then s.finishHead .tooLong 0 {}
      else s
    | .retryWaiting o n =>
      if !q.targetPasses s.roster || s.tooLong q then s.finishHead o n {} else s
    | .untaken | .onLine => s

/-! ## Leaving RUNNING (R147) -/

/-- The run state leaves RUNNING (R147). -/
def State.reqLeave (s : State) : State :=
  match s.req.head with
  | .claimed => ((s.setReqClaim none).setReservations (s.req.reservations - 1)).setHead .untaken
  | .retryWaiting o n => s.finishHead o n {}
  | .untaken | .onLine => s

/-! ## SUBMIT, CANCEL, POP_COMPLETION (R134, R145, R146) -/

/-- The ten checks of SUBMIT in order; the kind where none fails (R134, R51). -/
def State.submitChecks (s : State) (q : StagedRequest) : Except (ResultCode × Nat) ReqKind :=
  match ReqKind.ofCode q.kind with
  | none => .error (.badArg, 1)
  | some k =>
    if 255 < q.tag then .error (.badArg, 2)
    else if k ≠ .discover ∧ stationAddress q.address = false then .error (.badArg, 3)
    else if (k = .read ∨ k = .write) ∧ 255 < q.object then .error (.badArg, 4)
    else if (k = .read ∨ k = .write) ∧ ¬ (1 ≤ q.length ∧ q.length ≤ 32) then .error (.badArg, 5)
    else if k ≠ .discover ∧ 3 < q.retries then .error (.badArg, 6)
    else if s.req.queue.any (fun r => r.tag == q.tag) || s.disc.tag == some q.tag then .error (.dupTag, 0)
    else if 16 ≤ s.req.queue.length then .error (.queueFull, 0)
    else if s.timer.inForce.openBits < requestReservation k q.length s.timer.inForce.respWait then .error (.tooLong, 1)
    else if s.timer.pendingSet.openBits < requestReservation k q.length s.timer.pendingSet.respWait then
      .error (.tooLong, 2)
    else .ok k

/-- SUBMIT (R134): the result is that of the append; a record put into an empty queue becomes the head and is examined
(R136). -/
def State.submit (s : State) : State :=
  let q := s.host.stagedRequest
  match s.submitChecks q with
  | .error (code, val) => s.setResult code val
  | .ok k =>
    let queue := s.req.queue ++ [q.record k]
    let s' := (s.setQueue queue).setResult .done queue.length
    if s.req.queue.isEmpty then s'.takeUp else s'

/-- CANCEL of the running sweep (R146, R98). -/
def State.cancelSweep (s : State) : State :=
  match s.disc with
  | .sweeping sw => s.endSweep { sw with cancelRequested := true } .cancelled
  | .inRound sw rd => s.setDisc (.inRound { sw with cancelRequested := true } rd)
  | .idle => s

/-- The head record removed by CANCEL before its first grant (R146). -/
def State.cancelHead (s : State) : State :=
  match s.req.head with
  | .untaken => ((s.setQueue s.req.queue.tail).setResult .done 0).takeUp
  | .claimed =>
    (((((s.setReqClaim none).setReservations (s.req.reservations - 1)).setQueue s.req.queue.tail).setHead .untaken).setResult
      .done 0).takeUp
  | .onLine | .retryWaiting _ _ => s.setResult .inFlight 0

/-- CANCEL (R146). -/
def State.cancel (s : State) : State :=
  let tag := s.host.argNat
  if 255 < tag then s.setResult .badArg 0
  else match s.req.queue.findIdx? (fun r => r.tag == tag) with
    | some 0 => s.cancelHead
    | some (i + 1) => (s.setQueue (s.req.queue.eraseIdx (i + 1))).setResult .done 0
    | none => if s.disc.tag = some tag then s.cancelSweep.setResult .done 1 else s.setResult .notFound 0

/-- POP_COMPLETION (R145). -/
def State.popCompletion (s : State) : State :=
  match s.req.completions with
  | [] => s.setResult .empty 0
  | c :: rest => (({ s with req := { s.req with completions := rest } }).setResult .done c.tag).takeUp

/-! ## Meanings -/

def execSubmit (s : State) : Answer := .next (s.command 0x50 State.submit)
def execCancel (s : State) : Answer := .next (s.command 0x51 State.cancel)
def execPopCompletion (s : State) : Answer := .next (s.command 0x52 State.popCompletion)

end Sys2Proof.Machine
end

