-- ==== Sys2Proof/Machine/Scheduler.lean ====
section
/-! DEFINITION. The Poll Scheduler (chapters 6 and 7): the choice of a claim, issues and their outcomes, mailboxes, the
cycle start and the window end, and the commands on the schedule table and the mailboxes. -/

namespace Sys2Proof.Machine

open Sys2Proof

/-! ## The choice (R113, R114) -/

/-- The claim of a schedule entry for one attempt (R113, R117). -/
def SchedEntry.claim (e : SchedEntry) (n attempt : Nat) : Claim :=
  if e.isRead then
    { owner := .scheduler n, exchange := .poll, dest := e.target.toNat, object := e.object, lc := 0,
      lr := e.length.toNat, attempt, compare := none }
  else
    { owner := .scheduler n, exchange := .write, dest := e.target.toNat, object := e.object, lc := e.length.toNat,
      lr := 0, attempt, compare := none }

/-- A WRITE mailbox meets its entry's policy: SKIP needs FRESH, RESEND needs data (R114). -/
def Mailbox.hasDataFor (m : Mailbox) (e : SchedEntry) : Bool := if e.policy = 0 then m.fresh else !m.data.isEmpty

/-- The entry is DUE, its target issuable, and its reservation fits the bit times left (R113). -/
def State.candidate (s : State) (n : Nat) : Bool :=
  let e := s.entry n
  e.status == .due && s.roster.issuable e.target.toNat && e.reservation s.rw ≤ s.timer.left

/-- The entry sends something: a READ always, a WRITE when it has data to send (R114). -/
def State.hasData (s : State) (n : Nat) : Bool :=
  !(s.entry n).isWrite || (s.mailbox n).hasDataFor (s.entry n)

/-- A DUE WRITE entry reached with nothing to send (R114). -/
def SchedEntry.skip (e : SchedEntry) : SchedEntry := { e with status := .waiting, skipped := satSucc 255 e.skipped }

/-- The choice among the entries listed, in order (R113, R114). -/
def State.chooseFrom : List Nat → State → State
  | [], s => s.setSchedClaim none
  | n :: ns, s =>
    if s.candidate n then
      if s.hasData n then s.setSchedClaim (some ((s.entry n).claim n 1))
      else State.chooseFrom ns (s.setEntry n (s.entry n).skip)
    else State.chooseFrom ns s

/-- The entry numbers in order. -/
def entryNumbers : List Nat := List.range' 0 32

/-- The Scheduler chooses, while the run state is RUNNING and the window SCHED (R113). -/
def State.choose (s : State) : State := if s.scheduling then s.chooseFrom entryNumbers else s

/-- The claim held is for a new issue and exceeds the bit times left (R113). -/
def State.claimStale (s : State) : Bool :=
  match s.line.schedClaim with
  | some c => c.attempt == 1 && s.timer.left < c.reservation s.rw
  | none => false

/-- The Scheduler is to choose at the present bit-time boundary (R113). -/
def State.choiceDue (s : State) : Bool := s.scheduling && s.claimStale

/-- The choice at a bit-time boundary (R113). -/
def State.chooseAtBoundary (s : State) : State := if s.choiceDue then s.choose else s

/-! ## Issues (R115 to R117) -/

/-- The issue of an entry ends: attempt 0, WAITING, or DISABLED where a disable was pending; counted in *failed* or not
(R116). -/
def SchedEntry.endIssue (e : SchedEntry) (failed : Bool) : SchedEntry :=
  { e with
    attempt := 0
    status := if e.disablePending then .disabled else .waiting
    disablePending := false
    failed := if failed then satSucc 255 e.failed else e.failed }

/-- A grant of the Scheduler's claim consumes the due mark (R115). -/
def SchedEntry.granted (e : SchedEntry) (attempt : Nat) : SchedEntry := { e with status := .inFlight, attempt }

/-- The fill of a READ mailbox by an OK reply, and whether MBX is set (R123, R127). -/
def Mailbox.fill (m : Mailbox) (policy : Byte) (reply : Reply) (cycle : Word) : Mailbox × Bool :=
  if m.full then
    if policy = 0 then ({ m with overrun := satSucc 255 m.overrun }, false)
    else ({ m with data := reply.payload, fillCycle := cycle, overrun := satSucc 255 m.overrun }, true)
  else ({ m with data := reply.payload, fillCycle := cycle, full := true }, true)

/-- The outcome of a WRITE attempt at its mailbox (R130). -/
def Mailbox.writeOutcome (m : Mailbox) (o : LineOutcome) : Mailbox :=
  { m with fresh := if o = .ok then m.fresh && m.replaced else m.fresh, replaced := false }

/-- The mailbox's part of taking an outcome (R123, R124, R130). -/
def State.mailboxOutcome (s : State) (n : Nat) (o : LineOutcome) (reply : Reply) : State :=
  let e := s.entry n
  if e.isWrite then s.setMailbox n ((s.mailbox n).writeOutcome o)
  else if o = .ok then
    let f := (s.mailbox n).fill e.policy reply s.timer.cycle
    if f.2 then (s.setMailbox n f.1).raiseMbx else s.setMailbox n f.1
  else s

/-- The conditions for a retry as the outcome is taken (R117). -/
def State.schedRetry (s : State) (n : Nat) : Bool :=
  let e := s.entry n
  e.attempt < 1 + e.retries.toNat && !e.disablePending && s.scheduling && s.roster.issuable e.target.toNat
    && e.reservation s.rw ≤ s.timer.left

/-- The outcome written into the entry, with the reply status for a NAK (R116) and OK otherwise (log 24). -/
def SchedEntry.noteOutcome (e : SchedEntry) (o : LineOutcome) (reply : Reply) (cycle : Word) : SchedEntry :=
  { e with lastOutcome := o, lastStatus := if o = .nak then reply.status else .ok, lastCycle := cycle }

/-- The outcome of an attempt reaches the Scheduler (R116, R117, R123, R130).  The attempt's entry is IN_FLIGHT; an entry
in another status has no issue to end (log 14). -/
def State.schedOutcome (s : State) (n : Nat) (o : LineOutcome) (reply : Reply) : State :=
  let s := s.setEntry n ((s.entry n).noteOutcome o reply s.timer.cycle)
  let s := s.mailboxOutcome n o reply
  let e := s.entry n
  if e.status ≠ .inFlight then s
  else if o.retryable && s.schedRetry n then s.setSchedClaim (some (e.claim n (e.attempt + 1)))
  else
    let failed := o.retryable || o == .addressMismatch || o == .lineError
    (s.setEntry n (e.endIssue failed)).choose

/-! ## Leaving the scheduled window and RUNNING (R118 to R120) -/

/-- Entries waiting for a retry end their issue, counted in *failed* (R118, R119, R120). -/
def State.endWaitingRetries (s : State) : State :=
  s.updateEntries fun n e => if e.status = .inFlight ∧ s.entryOnLine n = false then e.endIssue true else e

/-- The claim is withdrawn and waiting retries end: the scheduled-window end (R118) and STOP into DRAINING (R119). -/
def State.schedWithdraw (s : State) : State := (s.setSchedClaim none).endWaitingRetries

/-- DUE and HELD entries return to WAITING (R120). -/
def SchedEntry.unmark (e : SchedEntry) : SchedEntry :=
  match e.status with
  | .due | .held => { e with status := .waiting }
  | .disabled | .waiting | .inFlight | .starved => e

/-- Entry to OFF or FAULTED (R120). -/
def State.schedLeave (s : State) : State := s.schedWithdraw.updateEntries fun _ e => e.unmark

/-! ## The cycle start (R110 to R112) -/

/-- The entry no longer fits the scheduled window in force (R110). -/
def SchedEntry.starves (e : SchedEntry) (t : TimingSet) : Bool :=
  e.enabled && t.schedBits < e.reservation t.respWait

/-- Counting down, and whether this cycle start is a due point (R111). -/
def SchedEntry.countDown (e : SchedEntry) : SchedEntry × Bool :=
  if e.countdown = 0 then ({ e with countdown := e.period.toNat - 1 }, true)
  else ({ e with countdown := e.countdown - 1 }, false)

/-- The status after counting down (R112).  An entry IN_FLIGHT only counts (R115, log 14). -/
def SchedEntry.mark (e : SchedEntry) (duePoint issuable : Bool) : SchedEntry :=
  match e.status, duePoint, issuable with
  | .waiting, true, true => { e with status := .due }
  | .waiting, true, false => { e with status := .held, skipped := satSucc 255 e.skipped }
  | .waiting, false, _ => e
  | .due, false, true => e
  | .due, true, true => { e with late := satSucc 255 e.late }
  | .due, _, false => { e with status := .held, skipped := satSucc 255 e.skipped }
  | .held, false, _ => e
  | .held, true, true => { e with status := .due }
  | .held, true, false => { e with skipped := satSucc 255 e.skipped }
  | .disabled, _, _ | .inFlight, _, _ | .starved, _, _ => e

/-- One entry at a cycle start (R110 to R112). -/
def SchedEntry.atCycleStart (e : SchedEntry) (t : TimingSet) (issuable : Bool) : SchedEntry :=
  if !e.enabled then e
  else if e.starves t then { e with status := .starved }
  else (e.countDown.1).mark e.countDown.2 issuable

/-- The Scheduler's handling of a cycle start (R110 to R113). -/
def State.schedCycleStart (s : State) : State :=
  let starve := s.sched.entries.cells.any fun e => e.starves s.timer.inForce
  let s' := s.updateEntries fun _ e => e.atCycleStart s.timer.inForce (s.roster.issuable e.target.toNat)
  (if starve then s'.raiseStarve else s').choose

/-! ## The commands on the schedule table (R106 to R109) -/

/-- The entry number of ARG lies in 0..31 (section 6.2). -/
def State.argEntry (s : State) : Bool := s.host.argNat < 32

/-- SCHED_SET (R106, R122). -/
def State.schedSet (s : State) : State :=
  let n := s.host.argNat
  if !s.argEntry then s.setResult .badArg 0
  else if (s.entry n).enabled then s.setResult .entryEnabled 0
  else ((s.setEntry n s.host.stagedEntry).setMailbox n {}).setResult .done 0

/-- The ten checks of SCHED_ENABLE in order; none fails (R107, R51). -/
def SchedEntry.enableRefusal (e : SchedEntry) (inForce pendingSet : TimingSet) : Option (ResultCode × Nat) :=
  if e.enabled then some (.entryEnabled, 0)
  else if stationAddress e.target.toNat = false then some (.badArg, 1)
  else if (e.isRead || e.isWrite) = false then some (.badArg, 2)
  else if ¬ (1 ≤ e.length.toNat ∧ e.length.toNat ≤ 32) then some (.badArg, 3)
  else if ¬ (1 ≤ e.period.toNat ∧ e.period.toNat ≤ 255) then some (.badArg, 4)
  else if ¬ e.phase.toNat < e.period.toNat then some (.badArg, 5)
  else if ¬ e.retries.toNat ≤ 3 then some (.badArg, 6)
  else if ¬ e.policy.toNat ≤ 1 then some (.badArg, 7)
  else if inForce.schedBits < e.reservation inForce.respWait then some (.tooLong, 1)
  else if pendingSet.schedBits < e.reservation pendingSet.respWait then some (.tooLong, 2)
  else none

/-- SCHED_ENABLE (R107). -/
def State.schedEnable (s : State) : State :=
  let n := s.host.argNat
  let e := s.entry n
  if !s.argEntry then s.setResult .badArg 0
  else match e.enableRefusal s.timer.inForce s.timer.pendingSet with
    | some (code, val) => s.setResult code val
    | none =>
      (s.setEntry n { e with status := .waiting, countdown := e.phase.toNat, attempt := 0, disablePending := false }).setResult
        .done (e.reservation s.rw)

/-- The Scheduler's claim names entry `n` (R108). -/
def State.claimNames (s : State) (n : Nat) : Bool :=
  match s.line.schedClaim with
  | some c => c.owner == .scheduler n
  | none => false

/-- SCHED_DISABLE (R108). -/
def State.schedDisable (s : State) : State :=
  let n := s.host.argNat
  let e := s.entry n
  if !s.argEntry then s.setResult .badArg 0
  else match e.status with
    | .disabled | .starved | .waiting | .held => (s.setEntry n { e with status := .disabled }).setResult .done 0
    | .due =>
      let s' := s.setEntry n { e with status := .disabled }
      (if s.claimNames n then (s'.setSchedClaim none).choose else s').setResult .done 0
    | .inFlight =>
      if s.entryOnLine n then (s.setEntry n { e with disablePending := true }).setResult .done 1
      else
        ((s.setEntry n { e.endIssue true with status := .disabled }).setSchedClaim none).choose.setResult .done 0

/-- The reservation SCHED_SNAP shows: 0 when L lies outside 1..32 (R109). -/
def SchedEntry.shownReservation (e : SchedEntry) (rw : Nat) : Nat :=
  if 1 ≤ e.length.toNat ∧ e.length.toNat ≤ 32 then e.reservation rw else 0

/-- The snapshot of a schedule entry (R109, section 12.5): word 0 kind 1:0 = 2, entry 12:8; word 1 status 2:0, disable
pending 3, attempt 6:4, last outcome 12:8, its reply status 15:14. -/
def State.schedSnapWords (s : State) (n : Nat) : List Word :=
  let e := s.entry n
  [pairWord n 2,
    (BitVec.ofNat 2 e.lastStatus.code ++ BitVec.ofNat 1 0 ++ BitVec.ofNat 5 e.lastOutcome.code ++ BitVec.ofNat 1 0
      ++ BitVec.ofNat 3 e.attempt ++ BitVec.ofNat 4 e.status.code : BitVec (2 + 1 + 5 + 1 + 3 + 4))
      ||| bitAt e.disablePending 3]
  ++ e.configWords
  ++ [pairWord e.late e.countdown, pairWord e.failed e.skipped, e.lastCycle, BitVec.ofNat 16 (e.shownReservation s.rw)]

/-- SCHED_SNAP (R109). -/
def State.schedSnap (s : State) : State :=
  let n := s.host.argNat
  if s.argEntry then (s.setSnap (s.schedSnapWords n)).setResult .done (s.entry n).status.code
  else s.setResult .badArg 0

/-! ## The commands on the mailboxes (R125, R128) -/

/-- The take buffer's words for a mailbox (R125, section 12.5). -/
def Mailbox.takeWords (m : Mailbox) (n : Nat) : List Word :=
  [pairWord m.data.length n, m.fillCycle, BitVec.ofNat 16 m.overrun] ++ packBytes 16 m.data

/-- TAKE (R125). -/
def State.take (s : State) : State :=
  let n := s.host.argNat
  let m := s.mailbox n
  if !s.argEntry then s.setResult .badArg 0
  else if (s.entry n).isRead = false then s.setResult .wrongDirection 0
  else if m.full = false then s.setResult .empty 0
  else
    let s' := s.setMailbox n { m with full := false }
    ({ s' with host := { s'.host with takeBuf := wordTable 19 (m.takeWords n) } }).setResult .done m.data.length

/-- PUT (R128). -/
def State.put (s : State) : State :=
  let n := s.host.argNat
  let m := s.mailbox n
  if !s.argEntry then s.setResult .badArg 0
  else if (s.entry n).isWrite = false then s.setResult .wrongDirection 0
  else if ¬ (1 ≤ s.host.putLength ∧ s.host.putLength ≤ 32 ∧ s.host.putLength ≤ (s.entry n).length.toNat) then
    s.setResult .badArg 1
  else
    let overrun := if m.fresh then satSucc 255 m.overrun else m.overrun
    (s.setMailbox n
      { m with data := s.host.putData, fresh := true, overrun, replaced := m.replaced || s.entryOnLine n }).setResult
      .done overrun

/-- Bit `n` of the mailbox image (R132). -/
def State.imageBit (s : State) (n : Nat) : Bool :=
  let e := s.entry n
  if e.isRead then (s.mailbox n).full else if e.isWrite then (s.mailbox n).fresh else false

/-! ## Meanings -/

def execSchedSet (s : State) : Answer := .next (s.command 0x30 State.schedSet)
def execSchedEnable (s : State) : Answer := .next (s.command 0x31 State.schedEnable)
def execSchedDisable (s : State) : Answer := .next (s.command 0x32 State.schedDisable)
def execSchedSnap (s : State) : Answer := .next (s.command 0x33 State.schedSnap)
def execTake (s : State) : Answer := .next (s.command 0x40 State.take)
def execPut (s : State) : Answer := .next (s.command 0x41 State.put)

end Sys2Proof.Machine
end

