-- ==== Sys2Proof/Machine/Transitions.lean ====
section
/-! DEFINITION. What every block does when the run state changes (R163) and at a cycle start (R53). -/

namespace Sys2Proof.Machine

open Sys2Proof

/-! ## Leaving RUNNING or DRAINING -/

/-- The engine's part and the unit's part of one change of run state.  Where each of them writes a completion, which is
written first is free (log 8). -/
def State.engineAndUnit (s : State) (bothComplete : Bool) (engine unit : State → State) : State :=
  if bothComplete then
    if Config.engineFirst s.freeIndex then unit (engine s.nextFree) else engine (unit s.nextFree)
  else unit (engine s)

/-- A sweep is SWEEPING. -/
def Discovery.isSweeping : Discovery → Bool
  | .sweeping _ => true
  | .idle | .inRound _ _ => false

/-- The head waits for the grant of a retry. -/
def HeadCondition.isRetryWaiting : HeadCondition → Bool
  | .retryWaiting _ _ => true
  | .untaken | .claimed | .onLine => false

/-- The reactions of the Request Engine (R147) and of a SWEEPING Discovery Unit (R99, R100, R102) to leaving RUNNING. -/
def State.ownersLeave (s : State) (sweepEnd : LineOutcome) : State :=
  s.engineAndUnit (s.disc.isSweeping && s.req.head.isRetryWaiting) State.reqLeave (fun s => s.endSweeping sweepEnd)

/-- Entry to OFF from a state in which the line was used: the window becomes NONE (R58), the beacon-pending flag is
cleared (R67), a line check is abandoned (R155, R157), DRAINED is set (R162). -/
def State.enterOff (s : State) : State :=
  let s := { s with run := { s.run with state := .off, check := .idle } }
  ((s.setTimer s.timer.close).setBeaconPending false).raiseDrained

/-- Entry to DRAINING (R155, R79, R67). -/
def State.enterDraining (s : State) : State := (s.setRunState .draining).setBeaconPending false

/-- Entry to FAULTED from RUNNING or DRAINING (R158, R58, R67, R120, R147, R102). -/
def State.enterFaulted (s : State) : State :=
  let s := (((s.setRunState .faulted).setTimer s.timer.close).setBeaconPending false).schedLeave
  (s.ownersLeave .lineError).discFaultSeen

/-! ## The cycle start (R53) -/

/-- A cycle start: the timer's part, CYC, the beacon-pending flag in RUNNING (R67), the Scheduler's part (R110 to R113)
and the unit's window check where a pending set was applied (R85). -/
def State.cycleStart (s : State) : State :=
  let applied := s.timer.pendingPresent
  let s := (s.setTimer s.timer.cycleStart).raiseCyc
  let s := if s.run.state = .running then s.setBeaconPending true else s
  s.schedCycleStart.discCycleStart applied

/-- The run state becomes RUNNING at a bit-time boundary, by START or by a CLEAR line check (R154, R160, R71, R136). -/
def State.enterRunning (s : State) : State :=
  (((s.setRunState .running).setEchoCount 0).cycleStart.setBoundary true).takeUp

end Sys2Proof.Machine
end

