-- ==== Sys2Proof/Machine/Line.lean ====
section
/-! DEFINITION. The Line Sequencer (chapter 4): what is due when, echo errors, the idle check, grants, the phases of a
transaction, the parts of a round, and the delivery of outcomes. -/

namespace Sys2Proof.Machine

open Sys2Proof

/-! ## What is due at the present moment (R12 to R14, R18, R63) -/

/-- The transaction has come to the point where its phase must end: the frame's last bit sent, the response wait or
the reply deadline reached, the last slot over, the closing gap over. -/
def Record.due (r : Record) (rw : Nat) : Bool :=
  match r.phase with
  | .sending => r.frame.bits ≤ r.phaseTime
  | .waiting => rw ≤ r.phaseTime
  | .receiving => if r.part = .slots then slotBits ≤ r.phaseTime else r.deadline rw ≤ r.elapsed
  | .closing => closingGap ≤ r.phaseTime

/-- The transaction in flight has come to such a point. -/
def State.lineDue (s : State) : Bool :=
  match s.line.record with
  | some r => r.due s.rw
  | none => false

/-- The line check has come to its end (R160). -/
def CheckProgress.due : CheckProgress → Bool
  | .idle | .armed => false
  | .sampling n => 32 ≤ n
  | .dominant => true

/-! ## Echo errors and the idle check (R64, R70 to R72) -/

/-- An echo error (R71); the one that brings the consecutive count to 8 hands over the fault signal, which RUNNING and
DRAINING answer (R72, R158).  The count stops at its top, 8 (log 23). -/
def State.echoError (s : State) : State :=
  let n := satSucc 8 s.line.echoCount
  let s := { s with line := { s.line with echoCount := n, lineErrors := satSucc 65535 s.line.lineErrors } }
  if n = 8 ∧ (s.run.state = .running ∨ s.run.state = .draining) then s.enterFaulted else s

/-- An echo error on a frame: LINE_ERROR, the closing gap, the counts (R63, R70, R71); for a round's RESTART, ASSIGN and
RELEASE the unit is handed LINE_ERROR at the start of the gap (R78, R101). -/
def State.failFrame (s : State) (r : Record) (offGrid : Bool) : State :=
  let s := (s.setRecord (some { r.close (some .lineError) offGrid with after := .finish })).echoError
  if r.owner = .discovery ∧ r.part ≠ .contend then s.discLineError else s

/-- A frame is about to be driven: the pre-drive idle check (R64). -/
def State.driveFrame (s : State) (r : Record) : State :=
  if s.line.idleRun = 4 then
    s.setRecord (some { r with phase := .sending, outcome := none, elapsed := 0, phaseTime := 0, offGrid := false })
  else s.failFrame r false

/-! ## Grants (R65 to R69) -/

/-- The frame of a claim, with the payload the owner supplies at the grant for a WRITE (R68). -/
def Claim.frame (c : Claim) (payload : List Byte) : Frame :=
  match c.exchange with
  | .poll => pollFrame c.dest c.object
  | .write => writeFrame c.dest c.object payload
  | .release => releaseFrame c.dest 0

/-- The record made at the grant of a claim (R62). -/
def Claim.record (c : Claim) (payload : List Byte) (rw : Nat) : Record :=
  { owner := .claim c.owner, exchange := some c.exchange, dest := c.dest, frame := c.frame payload, lr := c.lr,
    source := some c.dest, compare := c.compare, reservation := c.reservation rw, attempt := c.attempt, phase := .sending,
    outcome := none, reply := {}, part := .single, after := .finish, heard := 0, elapsed := 0, phaseTime := 0,
    offGrid := false }

/-- The beacon's record (R67). -/
def beaconRecord (cycle : Word) : Record :=
  { owner := .beacon, exchange := none, dest := 0, frame := beaconFrame cycle, lr := 0, source := none, compare := none,
    reservation := beaconReservation, attempt := 1, phase := .sending, outcome := none, reply := {}, part := .single,
    after := .finish, heard := 0, elapsed := 0, phaseTime := 0, offGrid := false }

/-- The record of a round, at its CONTEND frame (R77). -/
def roundRecord (rw : Nat) : Record :=
  { owner := .discovery, exchange := none, dest := 0, frame := contendFrame, lr := 0, source := none, compare := none,
    reservation := roundReservation rw, attempt := 1, phase := .sending, outcome := none, reply := {}, part := .contend,
    after := .slots, heard := 0, elapsed := 0, phaseTime := 0, offGrid := false }

/-- What a grant decision may grant (R65). -/
inductive Grant where
  | beacon
  | sched (c : Claim)
  | request (c : Claim)
  | round
  deriving DecidableEq, Repr

/-- A reservation passes the fit check (R66). -/
def State.fits (s : State) (reservation : Nat) : Bool := reservation ≤ s.timer.left

/-- The open-window arbiter (R69). -/
def State.arbiter (s : State) : Option Grant :=
  let request := match s.line.reqClaim with
    | some c => if s.fits (c.reservation s.rw) then some (Grant.request c) else none
    | none => none
  let round := if s.line.roundClaim && s.fits (roundReservation s.rw) then some Grant.round else none
  match request, round with
  | some a, some b => if s.line.lastGrant = .request then some b else some a
  | some a, none => some a
  | none, b => b

/-- The claim granted at a decision, if any (R65 to R67, R69). -/
def State.decision (s : State) : Option Grant :=
  match s.timer.window with
  | .noWindow => none
  | .sched =>
    if s.line.beaconPending then (if s.fits beaconReservation then some .beacon else none)
    else match s.line.schedClaim with
      | some c => if s.fits (c.reservation s.rw) then some (.sched c) else none
      | none => none
  | .openWin => s.arbiter

def State.setLastGrant (s : State) (o : OpenOwner) : State := { s with line := { s.line with lastGrant := o } }

/-- The payload of the head request (R138). -/
def State.headPayload (s : State) : List Byte := (s.req.queue.head?.map Request.payload).getD []

/-- A grant: the owner is told, the record made, the frame built, the idle check made (R65, R115, R140, R87). -/
def State.grant (s : State) : Grant → State
  | .beacon => (s.setBeaconPending false).driveFrame (beaconRecord s.timer.cycle)
  | .sched c =>
    match c.owner with
    | .scheduler n =>
      ((s.setSchedClaim none).setEntry n ((s.entry n).granted c.attempt)).driveFrame (c.record (s.mailbox n).data s.rw)
    | .request _ => s
  | .request c => (((s.setReqClaim none).setLastGrant .request).reqGranted).driveFrame (c.record s.headPayload s.rw)
  | .round => (((s.setRoundClaim false).setLastGrant .discovery).discGranted).driveFrame (roundRecord s.rw)

/-- The conditions of a grant decision other than the boundary and the claims (R65); the window's expiry has been
taken. -/
def State.mayGrant (s : State) : Bool :=
  s.run.state == .running && s.line.record.isNone && !s.timer.expired

/-- What a grant decision grants (R65). -/
def State.grantDecided (s : State) : State :=
  if s.mayGrant then
    match s.decision with
    | some g => s.grant g
    | none => s
  else s

/-- The grant decision of the present boundary, made once, after the events of that boundary (R65), and the Scheduler's
choice of that boundary where it comes after the decision (R113, log 12). -/
def State.decideGrant (s : State) : State :=
  if !s.line.boundary || s.lineDue || s.timer.expired then s
  else (s.setBoundary false).grantDecided.chooseAtBoundary

/-- A decision is still to be made at this boundary that would grant a claim, or that the Scheduler's choice waits for. -/
def State.grantDue (s : State) : Bool := s.line.boundary && (s.mayGrant && s.decision.isSome || s.choiceDue)

/-- The Line Sequencer makes a grant decision at the boundary just reached, at the latest when the closing gap that ends
there is over (R65); the window and the run state are the Scheduler's own condition. -/
def State.decisionComes (s : State) : Bool :=
  !s.timer.expired &&
    match s.line.record with
    | none => true
    | some r => r.phase == .closing && r.due s.rw && !r.offGrid

/-- The Scheduler's choice at the boundary just reached.  It and the grant decision of the same boundary are taken in either
order (R113): which comes first is a free value (log 12), and a choice that comes second is left to the decision. -/
def State.boundaryChoice (s : State) : State :=
  if s.choiceDue && s.decisionComes then
    if Config.choiceFirst s.freeIndex then s.nextFree.choose else s.nextFree
  else s.chooseAtBoundary

/-! ## Phases of a transaction (R63, R70 to R74) -/

/-- The end of a frame sent clean (R63, R71, R77, R78). -/
def State.frameSent (s : State) (r : Record) : State :=
  let s := s.setEchoCount 0
  if r.expectsReply then s.setRecord (some { r with phase := .waiting, phaseTime := 0 })
  else s.setRecord (some (r.close (if r.owner = .discovery then none else some .ok) false))

/-- The attempt is classified and the closing gap begins; the outcome of a round's ASSIGN is handed to the unit, and
after TIMEOUT a RELEASE with mode 1 follows (R63, R78, R92, R94). -/
def State.classify (s : State) (r : Record) (o : LineOutcome) (reply : Reply) : State :=
  let after := if r.owner = .discovery ∧ o = .timeout then AfterGap.release (r.source.getD 0) else .finish
  let s := s.setRecord (some { r.close (some o) r.offGrid with reply, after })
  if r.owner = .discovery then s.discAssignOutcome o else s

/-- A reply's first leading edge at `phaseTime` bt into the wait, or inside the bit time that follows (R12). -/
def Record.edgeInWait (r : Record) (rw : Nat) (onGrid : Bool) : Bool :=
  r.phaseTime < rw || (r.phaseTime == rw && onGrid)

/-- `time` bt after the leading edge is an end of a reply of `n` bytes: 10 bt a byte, where each byte after the first may
move the grid by half a bit time either way (R5, R13).  An edge or an end inside a bit time (`edgeOff`, `endOff`) lies
anywhere in it. -/
def gridAllows (n time : Nat) (edgeOff endOff : Bool) : Bool :=
  20 * n ≤ 2 * time + (n - 1) + endOff.toNat && 2 * time ≤ 20 * n + (n - 1) + edgeOff.toNat

/-- A reply of these bytes ends now as its LENGTH declares, at or before the deadline (R13). -/
def Record.replyEnds (r : Record) (rw : Nat) (bytes : List RxByte) (onGrid : Bool) : Bool :=
  rxComplete bytes && gridAllows bytes.length r.phaseTime r.offGrid !onGrid
    && (r.elapsed < r.deadline rw || (r.elapsed == r.deadline rw && onGrid))

/-! ## Delivery and the end of a transaction (R76, R78, R156) -/

/-- The outcome of an attempt for a schedule entry or a request: to the Roster, then to the owner; the record ceases to
exist (R76). -/
def State.deliver (s : State) (r : Record) (o : LineOutcome) : State :=
  let s := s.setRecord none
  let s := s.setRoster (s.roster.deliver (r.exchange == some .release) o r.dest s.timer.cycle)
  match r.owner with
  | .claim (.scheduler n) => s.schedOutcome n o r.reply
  | .claim (.request _) => s.reqOutcome o r.attempt r.reply
  | .discovery | .beacon => s

/-- The line-free signal: DRAINING becomes OFF (R156, R58, R120, R147); in any other run state nothing changes. -/
def State.lineFree (s : State) : State :=
  if s.run.state = .draining then s.enterOff.schedLeave.reqLeave else s

/-- A round's end is told to the unit; the LINE_ERROR of a CONTEND frame is handed first (R77, R95). -/
def State.finishRound (s : State) (r : Record) : State :=
  let s := s.setRecord none
  let s := if r.part = .contend then s.discLineError else s
  s.discRoundEnd

/-- A round has ended and the unit has placed its next ROUND claim.  Where the grant decision of this boundary would grant it,
whether that decision sees it is a free value (R95 order 9, log 29); where it does not, the decision has been made and granted
nothing. -/
def State.roundClaimSeen (s : State) : State :=
  if s.line.boundary && s.mayGrant && s.decision == some .round then
    if Config.roundSeen s.freeIndex then s.nextFree else s.nextFree.setBoundary false
  else s

/-- The end of a closing gap (R76 to R78, R18): the round's next part, or the end of the transaction. -/
def State.gapEnd (s : State) (r : Record) : State :=
  match r.owner with
  | .beacon => (s.setRecord none).lineFree
  | .claim _ => (s.deliver r (r.outcome.getD .aborted)).lineFree
  | .discovery =>
    match r.after with
    | .slots => (s.setRecord (some { r with phase := .receiving, part := .slots, phaseTime := 0 })).discPhase .slots
    | .restart => s.driveFrame { r with frame := restartFrame, part := .restart, after := .finish }
    | .assign i a =>
      s.driveFrame { r with frame := assignFrame i a, part := .assign, after := .finish, lr := 0, source := some a }
    | .release a => s.driveFrame { r with frame := releaseFrame a 1, part := .release, after := .finish }
    | .finish => (s.finishRound r).lineFree.roundClaimSeen

/-- The cut of HALT, and of STOP in FAULTED or CHECKING (R80, R155): the record ceases to exist at once, and the owner
receives ABORTED or the outcome already classified. -/
def State.cutLine (s : State) : State :=
  match s.line.record with
  | none => s
  | some r =>
    match r.owner with
    | .beacon => s.setRecord none
    | .claim _ => s.deliver r (if r.phase = .closing then r.outcome.getD .aborted else .aborted)
    | .discovery =>
      let s := s.setRecord none
      let s := if r.part = .contend ∧ r.outcome = some .lineError then s.discLineError else s
      s.discAborted.discRoundEnd

/-! ## The end of a bit time (R64, R47, R17, R160, R113) -/

/-- The idle-run count (R64). -/
def nextIdleRun (n : Nat) (mid : Level) : Nat := if mid = .recessive then satSucc 4 n else 0

/-- The record one bit time later; in the first bit time of a slot the sample is taken at its end (R17, R18). -/
def Record.tick (r : Record) (fin : Level) : Record :=
  { r with
    elapsed := r.elapsed + 1
    phaseTime := r.phaseTime + 1
    heard :=
      if r.part = .slots ∧ r.phase = .receiving ∧ r.phaseTime % 2 = 0 then
        (r.heard <<< 1) ||| (if fin = .dominant then 1 else 0)
      else r.heard }

/-- The line check one bit time later (R159, R160). -/
def CheckProgress.tick (c : CheckProgress) (mid : Level) : CheckProgress :=
  match c with
  | .idle => .idle
  | .armed => .sampling 0
  | .sampling n => if mid = .recessive then .sampling (n + 1) else .dominant
  | .dominant => .dominant

/-- The identity slots are over: the unit's phase becomes CHECK (R87). -/
def State.slotPhase (s : State) : State :=
  match s.line.record with
  | some r => if r.part = .slots ∧ r.phase = .receiving ∧ r.phaseTime = 96 then s.discPhase .check else s
  | none => s

/-- The controller drives this bit time as the sample reads, or drives nothing: no echo mismatch (R70). -/
def State.echoMatches (s : State) (mid : Level) : Bool :=
  match s.line.record with
  | some r => r.phase != .sending || r.frame.level r.phaseTime == mid
  | none => true

/-- A bit time may end: the bit clock runs (R46), every event of the present boundary has been taken, and no echo mismatch
is left untaken (log 2). -/
def State.mayTick (s : State) (mid : Level) : Bool :=
  s.timer.bitClock && !s.timer.expired && !s.lineDue && !s.run.check.due && !s.grantDue && s.echoMatches mid

/-- The end of a bit time (R64): the idle-run count, the window's counters, the transaction's counts and slot samples, the
line check's sample, the next boundary, and the Scheduler's choice there (R113, log 12). -/
def State.tick (s : State) (mid fin : Level) : State :=
  let line := { s.line with
    idleRun := nextIdleRun s.line.idleRun mid
    record := s.line.record.map fun r => r.tick fin
    boundary := true }
  let s := { s with
    run := { s.run with check := s.run.check.tick mid }
    timer := s.timer.tick
    line := line }
  s.slotPhase.boundaryChoice

end Sys2Proof.Machine
end

