-- ==== Sys2Proof/Machine/Run.lean ====
section
/-! DEFINITION. Run Control (chapter 9): reset and initialisation, START, STOP, HALT, RESUME, and the line check. -/

namespace Sys2Proof.Machine

open Sys2Proof

/-! ## Reset and initialisation (R151 to R153) -/

/-- Every block at its reset values (R22, R82, R83, R105, R121, R149, R150, R177).  What is no part of the block stays: the
word last read on the bus, the count of free values, the commands that wait (log 6). -/
def State.resetBlocks (s : State) (asserted : Bool) : State :=
  { State.reset with
    run := { State.reset.run with resetAsserted := asserted }
    dataBus := s.dataBus
    freeIndex := s.freeIndex
    pending := s.pending }

/-- RESET# is asserted: the block is held at its reset values; a bus read in progress returns an undefined value (R151,
log 7). -/
def State.resetPinAssert (s : State) (duringRead : Bool) : State :=
  let s' := s.resetBlocks true
  if duringRead && !s.run.resetAsserted then { s'.nextFree with dataBus := Config.undefinedRead s.freeIndex } else s'

/-- RESET# is deasserted: initialisation begins, with every table clear (R151, R153). -/
def State.resetPinRelease (s : State) : State := if s.run.resetAsserted then s.resetBlocks false else s

/-- The end of initialisation (R153), at a moment of the sender's choice (log 25). -/
def State.initEnd (s : State) : State :=
  if s.run.state = .init ∧ s.run.resetAsserted = false then
    ((s.setRunState .off).setTimer { s.timer with bitClock := true }).raiseInitDone
  else s

/-- RESET (R152). -/
def State.resetCommand (s : State) : State := s.resetBlocks false

/-! ## START, STOP, HALT, RESUME (R154 to R159) -/

/-- START (R154, R57). -/
def State.start (s : State) : State :=
  if s.run.state = .off then s.enterRunning.setResult .done 0 else s.setResult .badState 0

/-- STOP (R155). -/
def State.stop (s : State) : State :=
  match s.run.state with
  | .running =>
    if s.line.record.isSome then (s.enterDraining.schedWithdraw.ownersLeave .stopped).setResult .done 1
    else (s.enterOff.schedLeave.ownersLeave .stopped).setResult .done 0
  | .faulted | .checking => s.enterOff.cutLine.schedLeave.setResult .done 0
  | .init | .off | .draining => s.setResult .badState 0

/-- The transaction in flight is an attempt of a request. -/
def State.requestOnLine (s : State) : Bool :=
  match s.line.record with
  | some r => match r.owner with
    | .claim (.request _) => true
    | .claim (.scheduler _) | .discovery | .beacon => false
  | none => false

/-- A round is in flight. -/
def State.roundOnLine (s : State) : Bool :=
  match s.line.record with
  | some r => r.owner == .discovery
  | none => false

/-- HALT (R157, R80, R100, R120, R147): the run state is OFF before the cut attempt's outcome is taken, so no retry and no
take-up follows it (R148, log 21).  The cut is the unit's part where a round is in flight, the engine's otherwise. -/
def State.halt (s : State) : State :=
  match s.run.state with
  | .running | .draining | .faulted | .checking =>
    let round := s.roundOnLine
    let both := s.disc.active && (s.req.head.isRetryWaiting || s.requestOnLine)
    let s := s.enterOff.engineAndUnit both (fun s => (if round then s else s.cutLine).reqLeave)
      (fun s => (if round then s.cutLine else s).endSweeping .aborted)
    s.schedLeave.setResult .done 0
  | .init | .off => s.setResult .badState 0

/-- RESUME (R159). -/
def State.resume (s : State) : State :=
  if s.run.state = .faulted then
    ({ s with run := { s.run with state := .checking, check := .armed } }).setResult .done 0
  else s.setResult .badState 0

/-! ## The end of the line check (R160) -/

/-- A sample of the line check reads dominant: in a bit time not yet ended, or in the last one that ended. -/
def CheckProgress.mayStick : CheckProgress → Bool
  | .idle | .armed => false
  | .sampling n => n < 32
  | .dominant => true

/-- The check ends STUCK (R160). -/
def State.lineCheckStuck (s : State) : State :=
  if s.run.state = .checking ∧ s.run.check.mayStick then
    ({ s with run := { s.run with state := .faulted, check := .idle, lineCheck := .stuck } }).raiseCheckDone
  else s

/-- The 32 recessive samples have been taken. -/
def CheckProgress.isClear : CheckProgress → Bool
  | .idle | .armed | .dominant => false
  | .sampling n => 32 ≤ n

/-- The check ends CLEAR (R160, R60). -/
def State.lineCheckClear (s : State) : State :=
  if s.run.state = .checking ∧ s.run.check.isClear then
    (({ s with run := { s.run with check := .idle, lineCheck := .clear } }).raiseCheckDone).enterRunning
  else s

/-! ## Meanings -/

def execResetPinAssert (duringRead : Bool) (s : State) : Answer := .next (s.resetPinAssert duringRead)
def execResetPinRelease (s : State) : Answer := .next s.resetPinRelease
def execInitEnd (s : State) : Answer := .next s.initEnd
def execReset (s : State) : Answer := .next (s.command 0x01 State.resetCommand)
def execStart (s : State) : Answer := .next (s.command 0x02 State.start)
def execStop (s : State) : Answer := .next (s.command 0x03 State.stop)
def execHalt (s : State) : Answer := .next (s.command 0x04 State.halt)
def execResume (s : State) : Answer := .next (s.command 0x05 State.resume)
def execLineCheckStuck (s : State) : Answer := .next s.lineCheckStuck
def execLineCheckClear (s : State) : Answer := .next s.lineCheckClear

end Sys2Proof.Machine
end

