-- ==== Sys2Proof/Machine/Timing.lean ====
section
/-! DEFINITION. The commands and events of the Cycle Timer (chapter 3): TIMING_LOAD, CYCLE_START, SCHED_WINDOW_END,
BIT_TIME_END. -/

namespace Sys2Proof.Machine

open Sys2Proof

/-- The seven checks of TIMING_LOAD in order; none fails (R48). -/
def TimingSet.loadRefusal (t : TimingSet) (bitdivInForce : Nat) (state : RunState) : Option (ResultCode × Nat) :=
  if ¬ (8 ≤ t.bitdiv ∧ t.bitdiv ≤ 4095) then some (.badArg, 1)
  else if ¬ (1 ≤ t.tickdiv ∧ t.tickdiv ≤ 256) then some (.badArg, 2)
  else if ¬ (1 ≤ t.schedLen ∧ t.schedLen ≤ 4095) then some (.badArg, 3)
  else if ¬ (1 ≤ t.openLen ∧ t.openLen ≤ 4095) then some (.badArg, 4)
  else if ¬ (4 ≤ t.respWait ∧ t.respWait ≤ 255) then some (.badArg, 5)
  else if t.schedBits < 84 then some (.badArg, 6)
  else if t.bitdiv ≠ bitdivInForce ∧ state ≠ .off then some (.badState, 1)
  else none

/-- TIMING_LOAD (R48, R49). -/
def State.timingLoad (s : State) : State :=
  let t := s.host.stagedTiming
  match t.loadRefusal s.timer.inForce.bitdiv s.run.state with
  | some (code, val) => s.setResult code val
  | none => (s.setTimer { s.timer with pendingSet := t, pendingPresent := true }).setResult .done 0

/-- The expiry of the open window (R52, R53). -/
def State.openExpiry (s : State) : State :=
  if s.timer.window = .openWin ∧ s.timer.expired then s.cycleStart else s

/-- The scheduled-window end (R52, R118, R67, R139). -/
def State.schedExpiry (s : State) : State :=
  if s.timer.window = .sched ∧ s.timer.expired then
    ((((s.setTimer s.timer.openOpen).schedWithdraw).setBeaconPending false).reqWindowOpens)
  else s

/-- The end of a bit time (R64), where one may end (log 2). -/
def State.bitTimeEnd (s : State) (mid fin : Level) : State := if s.mayTick mid then s.tick mid fin else s

/-! ## Meanings -/

def execTimingLoad (s : State) : Answer := .next (s.command 0x10 State.timingLoad)
def execCycleStart (s : State) : Answer := .next s.openExpiry
def execSchedWindowEnd (s : State) : Answer := .next s.schedExpiry
def execBitTimeEnd (mid fin : Level) (s : State) : Answer := .next (s.bitTimeEnd mid fin)

end Sys2Proof.Machine
end

