-- ==== Sys2Proof/Machine/HostPort.lean ====
section
/-! DEFINITION. The Host Port (chapter 10, chapter 12): the registers as read, the window and its regions, the writes to
registers, and the decoding of a write to CMD. -/

namespace Sys2Proof.Machine

open Sys2Proof

/-! ## The regions (R168, section 12.5) -/

/-- The size of the region a value of WIN_SEL selects, in words; none where it selects no region (R166, R168). -/
def regionSize (sel : Word) : Option Nat :=
  match sel.toNat with
  | 0 => some 12 | 1 => some 20 | 2 => some 6 | 3 => some 17 | 4 => some 19 | 5 => some 22 | 6 => some 4 | 7 => some 12
  | _ => none

/-- A completion record in the CQ_HEAD layout (section 12.5). -/
def Completion.words (c : Completion) : List Word :=
  [pairWord c.kind.code c.tag, pairWord c.attempts c.address, pairWord c.status.code c.outcome.code,
    pairWord c.totalNoisy c.length]
  ++ packBytes 16 c.payload
  ++ [pairWord c.rejoined c.newStations, BitVec.ofNat 16 c.rounds]

/-- CQ_HEAD: the record at the head of the completion queue, all zero when the queue is empty (R168, R145). -/
def State.cqHeadWords (s : State) : List Word :=
  match s.req.completions with
  | [] => []
  | c :: _ => c.words

/-- A timing set in the TIMING layout (section 12.5). -/
def TimingSet.words (t : TimingSet) : List Word :=
  [BitVec.ofNat 16 t.bitdiv, BitVec.ofNat 16 t.tickdiv, BitVec.ofNat 16 t.schedLen, BitVec.ofNat 16 t.openLen,
    BitVec.ofNat 16 t.respWait]

/-- TIMING: the set in force, the pending set, the pending-present flag and the current window (R168, R45). -/
def State.timingWords (s : State) : List Word :=
  s.timer.inForce.words ++ s.timer.pendingSet.words
    ++ [bitAt s.timer.pendingPresent 0, BitVec.ofNat 16 s.timer.window.code]

/-- The word at an index of the region selected (R168); 0 where no region is selected (R167). -/
def State.regionWord (s : State) (sel : Word) (i : Nat) : Word :=
  match sel.toNat with
  | 0 => s.host.snap.get i 0
  | 1 => s.host.reqStage.get i 0
  | 2 => s.host.schedStage.get i 0
  | 3 => s.host.putBuf.get i 0
  | 4 => s.host.takeBuf.get i 0
  | 5 => s.cqHeadWords.getD i 0
  | 6 => s.host.pinStage.get i 0
  | 7 => s.timingWords.getD i 0
  | _ => 0

/-- A word stored in a region the host fills; a read-only region and no region take no writes (R167, R168, R169). -/
def HostPort.storeWord (h : HostPort) (sel : Word) (i : Nat) (v : Word) : HostPort :=
  match sel.toNat with
  | 1 => { h with reqStage := h.reqStage.set i v }
  | 2 => { h with schedStage := h.schedStage.set i v }
  | 3 => { h with putBuf := h.putBuf.set i v }
  | 6 => { h with pinStage := h.pinStage.set i v }
  | _ => h

/-! ## The window (R166, R167) -/

def State.setHost (s : State) (h : HostPort) : State := { s with host := h }

/-- The index after an access to a region of this size, with its wrap (R167). -/
def advanceIndex (size : Nat) (i : Word) : Word := if i.toNat + 1 < size then i + 1 else 0

/-- The window index advanced; it stays 0 while no region is selected (R167). -/
def HostPort.advance (h : HostPort) : HostPort :=
  match regionSize h.winSel with
  | some size => { h with winIndex := advanceIndex size h.winIndex }
  | none => h

/-- A write to WIN_SEL (R166). -/
def State.winSelWrite (s : State) (v : Word) : State :=
  s.busWrite fun s => s.setHost { s.host with winSel := v, winIndex := 0 }

/-- A write to WIN_INDEX (R166). -/
def State.winIndexWrite (s : State) (v : Word) : State :=
  s.busWrite fun s =>
    match regionSize s.host.winSel with
    | some size => if v.toNat < size then s.setHost { s.host with winIndex := v } else s
    | none => s

/-- A write to WIN_DATA (R167). -/
def State.winDataWrite (s : State) (v : Word) : State :=
  s.busWrite fun s => s.setHost (s.host.storeWord s.host.winSel s.host.winIndex.toNat v).advance

/-- D15..D0 (R164). -/
def State.setDataBus (s : State) (v : Word) : State := { s with dataBus := v }

/-- A read of WIN_DATA: the word at WIN_INDEX, then the advance (R167); 0 and no advance during INIT (R153) and while
RESET# is asserted (R151). -/
def State.winDataRead (s : State) : State :=
  if s.run.resetAsserted || s.run.state == .init then s.setDataBus 0
  else (s.setHost s.host.advance).setDataBus (s.regionWord s.host.winSel s.host.winIndex.toNat)

/-! ## EVENT and ENABLE (R174, R175) -/

/-- A write to EVENT (R174). -/
def State.eventWrite (s : State) (v : Word) : State := s.busWrite fun s => s.setSticky (s.host.sticky.cleared v)

/-- A write to ENABLE: bits 15:9 are ignored (R175, R179). -/
def State.enableWrite (s : State) (v : Word) : State :=
  s.busWrite fun s => s.setHost { s.host with enable := v.setWidth 9 }

/-! ## CMD (R171, R172, section 12.3) -/

/-- A code that names no command: UNKNOWN_COMMAND (R172). -/
def State.refuseUnknown (s : State) : State := s.setResult .unknownCommand 0

/-- The command codes and the owners' handling (section 12.3). -/
def commandTable : List (Nat × (State → State)) :=
  [(0x01, State.resetCommand), (0x02, State.start), (0x03, State.stop), (0x04, State.halt), (0x05, State.resume),
   (0x10, State.timingLoad), (0x20, State.threshLoad), (0x21, State.pin), (0x22, State.unpin),
   (0x23, State.clearConflict), (0x24, State.popChange), (0x25, State.stationSnap), (0x30, State.schedSet),
   (0x31, State.schedEnable), (0x32, State.schedDisable), (0x33, State.schedSnap), (0x40, State.take), (0x41, State.put),
   (0x50, State.submit), (0x51, State.cancel), (0x52, State.popCompletion)]

/-- A write to CMD (R171, R172); an unknown code is stored like any other (R179, log 10). -/
def State.commandWrite (s : State) (code : Word) : State :=
  s.command code ((commandTable.lookup code.toNat).getD State.refuseUnknown)

/-! ## Any register write (R164, R165, section 12.1) -/

/-- A write to a register that holds host data and has no command row of its own (R165). -/
def HostPort.storeRegister (h : HostPort) (addr : BitVec 5) (v : Word) : HostPort :=
  match addr.toNat with
  | 6 => { h with arg := v }
  | 16 => { h with tBitdiv := v }
  | 17 => { h with tTickdiv := v }
  | 18 => { h with tSched := v }
  | 19 => { h with tOpen := v }
  | 20 => { h with tResp := v }
  | 21 => { h with thresh := v }
  | _ => h

/-- A bus write at a word address: to each register its own rule; read-only and unassigned ones take none (R164, R165,
R179, log 18). -/
def State.registerWrite (s : State) (addr : BitVec 5) (v : Word) : State :=
  match addr.toNat with
  | 3 => s.eventWrite v
  | 4 => s.enableWrite v
  | 5 => s.commandWrite v
  | 22 => s.winSelWrite v
  | 23 => s.winIndexWrite v
  | 24 => s.winDataWrite v
  | _ => s.busWrite fun s => s.setHost (s.host.storeRegister addr v)

/-! ## The registers as read (R164, R176, section 12.1, section 12.2) -/

/-- STATUS (section 12.2). -/
def State.statusWord (s : State) : Word :=
  pairWord (s.run.lineCheck.code) (s.run.state.code + 16 * s.timer.window.code)
    ||| bitAt s.disc.active 6 ||| bitAt s.timer.pendingPresent 10

/-- QCOUNT (section 12.2). -/
def State.qcountWord (s : State) : Word := pairWord s.req.completions.length s.req.queue.length

/-- Sixteen bits of the mailbox image, the lowest for entry `base` (R132). -/
def State.imageWord (s : State) (base : Nat) : Word :=
  (List.range' 0 16).foldl (fun w k => w ||| bitAt (s.imageBit (base + k)) k) 0

/-- The value a register shows (R164, R176), by word address.  Reads other than of WIN_DATA change nothing, so they are
this function and no command (log 19). -/
def State.readReg (s : State) (addr : BitVec 5) : Word :=
  match addr.toNat with
  | 0 => 0x7230
  | 1 => 0x0001
  | 2 => s.statusWord
  | 3 => s.eventWord
  | 4 => s.enableWord
  | 5 => s.host.cmd
  | 6 => s.host.arg
  | 7 => BitVec.ofNat 16 s.host.result.code
  | 8 => s.host.resultVal
  | 9 => s.timer.cycle
  | 10 => s.qcountWord
  | 11 => BitVec.ofNat 16 s.roster.changes.length
  | 12 => s.imageWord 0
  | 13 => s.imageWord 16
  | 14 => BitVec.ofNat 16 s.line.echoCount
  | 15 => BitVec.ofNat 16 s.line.lineErrors
  | 16 => s.host.tBitdiv
  | 17 => s.host.tTickdiv
  | 18 => s.host.tSched
  | 19 => s.host.tOpen
  | 20 => s.host.tResp
  | 21 => s.host.thresh
  | 22 => s.host.winSel
  | 23 => s.host.winIndex
  | 24 => s.regionWord s.host.winSel s.host.winIndex.toNat
  | _ => 0

/-! ## Meanings -/

def execUnknownCommand (code : Word) (s : State) : Answer := .next (s.commandWrite code)
def execWinSelWrite (value : Word) (s : State) : Answer := .next (s.winSelWrite value)
def execWinIndexWrite (value : Word) (s : State) : Answer := .next (s.winIndexWrite value)
def execWinDataRead (s : State) : Answer := .next s.winDataRead
def execWinDataWrite (value : Word) (s : State) : Answer := .next (s.winDataWrite value)
def execEventWrite (value : Word) (s : State) : Answer := .next (s.eventWrite value)
def execEnableWrite (value : Word) (s : State) : Answer := .next (s.enableWrite value)
def execRegisterWrite (addr : BitVec 5) (value : Word) (s : State) : Answer := .next (s.registerWrite addr value)

end Sys2Proof.Machine
end

