-- ==== Sys2Proof/Machine/LineEvents.lean ====
section
/-! DEFINITION. The events of the line as commands (chapters 1, 4, 5).  An event that cannot occur in the present state
changes nothing (log 1). -/

namespace Sys2Proof.Machine

open Sys2Proof

/-- An event of the transaction in flight, where `may` allows it. -/
def State.onRecord (s : State) (may : Record → Bool) (event : Record → State) : State :=
  match s.line.record with
  | some r => if may r then event r else s
  | none => s

/-- ECHO_MISMATCH: a driven bit and the sample differ; LTX is released at the sample, inside the bit time (R70). -/
def State.echoMismatch (s : State) (lrx : Level) : State :=
  s.onRecord (fun r => r.phase == .sending && !r.due s.rw && r.frame.level r.phaseTime != lrx) fun r => s.failFrame r true

/-- FRAME_SENT_CLEAN (R63, R71). -/
def State.frameSentClean (s : State) : State :=
  s.onRecord (fun r => r.phase == .sending && r.due s.rw) fun r => s.frameSent r

/-- RESPONSE_WAIT_EXPIRY (R12). -/
def State.responseWaitExpiry (s : State) : State :=
  s.onRecord (fun r => r.phase == .waiting && r.due s.rw) fun r => s.classify { r with offGrid := false } .timeout {}

/-- REPLY_LEADING_EDGE (R12, R63). -/
def State.replyLeadingEdge (s : State) (onGrid : Bool) : State :=
  s.onRecord (fun r => r.phase == .waiting && r.edgeInWait s.rw onGrid) fun r =>
    s.setRecord (some { r with phase := .receiving, phaseTime := 0, offGrid := !onGrid })

/-- REPLY_RECEPTION_END (R13, R73, R74). -/
def State.replyReceptionEnd (s : State) (bytes : List RxByte) (onGrid : Bool) : State :=
  s.onRecord (fun r => r.phase == .receiving && r.part != .slots && r.replyEnds s.rw bytes onGrid) fun r =>
    s.classify { r with offGrid := !onGrid } (judgeReply r bytes).1 (judgeReply r bytes).2

/-- REPLY_DEADLINE: the reply is cut off there and has failed framing; the deadline lies on the grid (R13, R73). -/
def State.replyDeadline (s : State) : State :=
  s.onRecord (fun r => r.phase == .receiving && r.part != .slots && r.due s.rw) fun r =>
    s.classify { r with offGrid := false } .checkError {}

/-- CHECK_SLOTS_END: the heard identity and check are handed over, and the ending answered waits for 180 (R77, R88). -/
def State.checkSlotsEnd (s : State) : State :=
  s.onRecord (fun r => r.phase == .receiving && r.part == .slots && r.due s.rw) fun r =>
    let (after, s) := s.discDecide r.heardIdentity r.heardCheck
    s.setRecord (some { r.close none false with after })

/-- CLOSING_GAP_END (R76 to R78): where the gap ends inside a bit time, the next boundary is still to come (R70). -/
def State.closingGapEnd (s : State) : State :=
  s.onRecord (fun r => r.phase == .closing && r.due s.rw) fun r =>
    (if r.offGrid then s.setBoundary false else s).gapEnd r

/-! ## Meanings -/

def execGrantDecision (s : State) : Answer := .next s.decideGrant
def execEchoMismatch (lrx : Level) (s : State) : Answer := .next (s.echoMismatch lrx)
def execFrameSentClean (s : State) : Answer := .next s.frameSentClean
def execResponseWaitExpiry (s : State) : Answer := .next s.responseWaitExpiry
def execReplyLeadingEdge (onGrid : Bool) (s : State) : Answer := .next (s.replyLeadingEdge onGrid)
def execReplyReceptionEnd (bytes : List RxByte) (onGrid : Bool) (s : State) : Answer :=
  .next (s.replyReceptionEnd bytes onGrid)
def execReplyDeadline (s : State) : Answer := .next s.replyDeadline
def execCheckSlotsEnd (s : State) : Answer := .next s.checkSlotsEnd
def execClosingGapEnd (s : State) : Answer := .next s.closingGapEnd

end Sys2Proof.Machine
end

