-- ==== Sys2Proof/Machine/Dispatch.lean ====
section
/-! DEFINITION. The dispatch: one arm per command. -/

namespace Sys2Proof.Machine

open Sys2Proof

def exec (i : Instr) (s : State) : Host.Outcome State Fault Refusal :=
  match i with
  | .resetPinAssert duringRead => Sys2Proof.Machine.execResetPinAssert duringRead s
  | .resetPinRelease => Sys2Proof.Machine.execResetPinRelease s
  | .initEnd => Sys2Proof.Machine.execInitEnd s
  | .reset => Sys2Proof.Machine.execReset s
  | .start => Sys2Proof.Machine.execStart s
  | .stop => Sys2Proof.Machine.execStop s
  | .halt => Sys2Proof.Machine.execHalt s
  | .resume => Sys2Proof.Machine.execResume s
  | .lineCheckStuck => Sys2Proof.Machine.execLineCheckStuck s
  | .lineCheckClear => Sys2Proof.Machine.execLineCheckClear s
  | .timingLoad => Sys2Proof.Machine.execTimingLoad s
  | .threshLoad => Sys2Proof.Machine.execThreshLoad s
  | .pin => Sys2Proof.Machine.execPin s
  | .unpin => Sys2Proof.Machine.execUnpin s
  | .clearConflict => Sys2Proof.Machine.execClearConflict s
  | .popChange => Sys2Proof.Machine.execPopChange s
  | .stationSnap => Sys2Proof.Machine.execStationSnap s
  | .schedSet => Sys2Proof.Machine.execSchedSet s
  | .schedEnable => Sys2Proof.Machine.execSchedEnable s
  | .schedDisable => Sys2Proof.Machine.execSchedDisable s
  | .schedSnap => Sys2Proof.Machine.execSchedSnap s
  | .take => Sys2Proof.Machine.execTake s
  | .put => Sys2Proof.Machine.execPut s
  | .submit => Sys2Proof.Machine.execSubmit s
  | .cancel => Sys2Proof.Machine.execCancel s
  | .popCompletion => Sys2Proof.Machine.execPopCompletion s
  | .unknownCommand code => Sys2Proof.Machine.execUnknownCommand code s
  | .winSelWrite value => Sys2Proof.Machine.execWinSelWrite value s
  | .winIndexWrite value => Sys2Proof.Machine.execWinIndexWrite value s
  | .winDataRead => Sys2Proof.Machine.execWinDataRead s
  | .winDataWrite value => Sys2Proof.Machine.execWinDataWrite value s
  | .eventWrite value => Sys2Proof.Machine.execEventWrite value s
  | .enableWrite value => Sys2Proof.Machine.execEnableWrite value s
  | .registerWrite addr value => Sys2Proof.Machine.execRegisterWrite addr value s
  | .cycleStart => Sys2Proof.Machine.execCycleStart s
  | .schedWindowEnd => Sys2Proof.Machine.execSchedWindowEnd s
  | .grantDecision => Sys2Proof.Machine.execGrantDecision s
  | .echoMismatch lrx => Sys2Proof.Machine.execEchoMismatch lrx s
  | .frameSentClean => Sys2Proof.Machine.execFrameSentClean s
  | .responseWaitExpiry => Sys2Proof.Machine.execResponseWaitExpiry s
  | .replyReceptionEnd bytes onGrid => Sys2Proof.Machine.execReplyReceptionEnd bytes onGrid s
  | .replyDeadline => Sys2Proof.Machine.execReplyDeadline s
  | .checkSlotsEnd => Sys2Proof.Machine.execCheckSlotsEnd s
  | .closingGapEnd => Sys2Proof.Machine.execClosingGapEnd s
  | .replyLeadingEdge onGrid => Sys2Proof.Machine.execReplyLeadingEdge onGrid s
  | .bitTimeEnd mid fin => Sys2Proof.Machine.execBitTimeEnd mid fin s

end Sys2Proof.Machine
end

