-- ==== Sys2Proof/Machine/Station.lean ====
section
/-! DEFINITION. The stations' side of the line, on which the controller relies (R17, R19, R20).  A station is an agent outside
the block, so nothing here is part of State (log 16); the laws about a contention round use it. -/

namespace Sys2Proof.Machine

open Sys2Proof

/-- The states of a station (R19). -/
inductive Membership where
  | unjoined | contending | yielded
  | member (addr : Nat)
  deriving DecidableEq, Repr

/-- A station: its identity, its state, and the milliseconds left of its hold time (R16, R19, R20). -/
structure Station where
  ident  : Ident
  state  : Membership := .unjoined
  /-- The station's own hold time, at least 100 ms (R20). -/
  hold   : Nat := 100
  left   : Nat := 0
  deriving DecidableEq, Repr

/-- An answer of a station's object: a status and, with OK to a POLL, its value (R20). -/
structure ObjectAnswer where
  status : ReplyStatus := .ok
  value  : List Byte := []
  deriving DecidableEq, Repr

/-- A reply a station sends (R11): its status, source, the OBJECT returned and the payload. -/
structure StationReply where
  status  : ReplyStatus
  source  : Nat
  object  : Byte
  payload : List Byte := []
  deriving DecidableEq, Repr

/-- HEADER bits 7:6 (section 12.6). -/
def Frame.kindField (f : Frame) : Nat := (f.header.extractLsb' 6 2).toNat
/-- HEADER bits 5:0 (section 12.6). -/
def Frame.destField (f : Frame) : Nat := (f.header.extractLsb' 0 6).toNat

/-- The functions of a CONTROL frame (R8). -/
inductive ControlFunction where
  | beacon | contend | restart | release
  deriving DecidableEq, Repr

/-- The frames a station tells apart (R7, R8). -/
inductive FrameKind where
  | poll | write | assign
  | control (fn : ControlFunction)
  deriving DecidableEq, Repr

/-- The kind of a frame by its HEADER and OBJECT; none for a CONTROL frame of no known function (R7, R8). -/
def Frame.kind? (f : Frame) : Option FrameKind :=
  match f.kindField, f.object.toNat with
  | 0, _ => some .poll
  | 1, _ => some .write
  | 2, _ => some .assign
  | 3, 0 => some (.control .beacon)
  | 3, 1 => some (.control .contend)
  | 3, 2 => some (.control .restart)
  | 3, 3 => some (.control .release)
  | _, _ => none

/-- The identity that six bytes spell, most significant first (R16). -/
def identOfBytes (bs : List Byte) : Ident :=
  (bs.getD 0 0 ++ bs.getD 1 0 ++ bs.getD 2 0 ++ bs.getD 3 0 ++ bs.getD 4 0 ++ bs.getD 5 0 : BitVec (8 + 8 + 8 + 8 + 8 + 8))

/-- Membership at an address, with the hold timer started. -/
def Station.join (st : Station) (addr : Nat) : Station := { st with state := .member addr, left := st.hold }
/-- Back to UNJOINED. -/
def Station.leave (st : Station) : Station := { st with state := .unjoined, left := 0 }

/-- A MEMBER's answer to a frame addressed to it (R20). -/
def Station.answers (st : Station) (addr : Nat) (f : Frame) (kind : FrameKind) (answer : ObjectAnswer) :
    Station × Option StationReply :=
  match kind with
  | .poll =>
    if f.object = 0 then (st, some { status := .ok, source := addr, object := 0, payload := identBytes st.ident })
    else (st, some { status := answer.status, source := addr, object := f.object,
                     payload := if answer.status = .ok then answer.value else [] })
  | .write => (st, some { status := answer.status, source := addr, object := f.object })
  | .control .release =>
    (st.leave, if f.payload.getD 0 0 = 0 then some { status := .ok, source := addr, object := f.object } else none)
  | .assign | .control _ => (st, none)

/-- A station receives a frame intact (R19, R20); `answer` is what its object gives, where it is asked. -/
def Station.hears (st : Station) (f : Frame) (answer : ObjectAnswer) : Station × Option StationReply :=
  match f.kind?, st.state with
  | none, _ => (st, none)
  | some k, .member addr =>
    if k = .control .beacon ∧ f.destField = 63 then ({ st with left := st.hold }, none)
    else if f.destField = addr then st.answers addr f k answer
    else (st, none)
  | some (.control .contend), .unjoined => ({ st with state := .contending }, none)
  | some .assign, .contending =>
    if identOfBytes f.payload = st.ident then
      let addr := (f.payload.getD 6 0).toNat
      (st.join addr, some { status := .ok, source := addr, object := 0 })
    else (st.leave, none)
  | some .assign, .yielded => (st.leave, none)
  | some (.control .restart), .contending | some (.control .restart), .yielded => (st.leave, none)
  | some _, _ => (st, none)

/-- No intact frame began within 64 bt after the check slots (R19). -/
def Station.roundLapses (st : Station) : Station :=
  match st.state with
  | .contending | .yielded => st.leave
  | .unjoined | .member _ => st

/-- One millisecond without an intact BEACON: a MEMBER whose hold time runs out leaves (R20). -/
def Station.holdTick (st : Station) : Station :=
  match st.state with
  | .member _ => if st.left ≤ 1 then st.leave else { st with left := st.left - 1 }
  | .unjoined | .contending | .yielded => st

/-- The bit a station drives in slot `k` of 1..56: its identity, then its check value, most significant bit first (R17). -/
def Station.slotBit (st : Station) (k : Nat) : Bool :=
  if k ≤ 48 then st.ident.getLsbD (48 - k) else (identCheck st.ident).getLsbD (56 - k)

/-- Whether a station drives slot `k` dominant (R17, R19). -/
def Station.drives (st : Station) (k : Nat) : Bool :=
  match st.state with
  | .contending => st.slotBit k
  | .unjoined | .yielded | .member _ => false

/-- The line in a slot is the wired OR of what the stations drive (R2, R17). -/
def slotLine (sts : List Station) (k : Nat) : Bool := sts.any fun st => st.drives k

/-- A contending station yields in a slot where its bit is 0 and the line is dominant (R19). -/
def Station.afterSlot (st : Station) (k : Nat) (line : Bool) : Station :=
  match st.state with
  | .contending => if line && !st.slotBit k then { st with state := .yielded } else st
  | .unjoined | .yielded | .member _ => st

/-- The bits the controller reads in the slots listed, in order, and the stations afterwards (R17, R19). -/
def runSlots : List Nat → List Station → List Bool × List Station
  | [], sts => ([], sts)
  | k :: ks, sts =>
    let line := slotLine sts k
    let rest := runSlots ks (sts.map fun st => st.afterSlot k line)
    (line :: rest.1, rest.2)

/-- The slots of a round in order (R17). -/
def roundSlots : List Nat := List.range' 1 56

/-- The samples of the 56 slots as the record holds them, the last in bit 0 (R17). -/
def heardBits (bits : List Bool) : BitVec 56 :=
  bits.foldl (fun w b => (w <<< 1) ||| (if b then 1 else 0)) 0

end Sys2Proof.Machine
end

