-- ==== Sys2Proof/Safety.lean ====
section
/-! DEFINITION. What a lawful state is, in the terms the manual states its laws in: the laws of the station table, of the
Request Engine, of the run states, of JOINING entries and of health.  Each is a law that every step keeps. -/

namespace Sys2Proof.Machine

open Sys2Proof

/-! ## The terms the statements use -/

/-- Commands reach their owners: RESET# is deasserted and initialisation has ended (R151, R153). -/
abbrev State.accepts (s : State) : Prop := s.run.resetAsserted = false ∧ s.run.state ≠ .init

/-- The code stored in CMD and the result of the command (R171). -/
def State.replied (s : State) (code : Word) (result : ResultCode) (val : Nat) : State :=
  (s.setCmd code).setResult result val

/-- A write to CMD, in any of its spellings (R171, R172). -/
def writesCommand : Instr → Bool
  | .reset | .start | .stop | .halt | .resume | .timingLoad | .threshLoad | .pin | .unpin | .clearConflict | .popChange
  | .stationSnap | .schedSet | .schedEnable | .schedDisable | .schedSnap | .take | .put | .submit | .cancel
  | .popCompletion | .unknownCommand _ => true
  | .registerWrite addr _ => addr == 5
  | .resetPinAssert _ | .resetPinRelease | .initEnd | .lineCheckStuck | .lineCheckClear | .winSelWrite _
  | .winIndexWrite _ | .winDataRead | .winDataWrite _ | .eventWrite _ | .enableWrite _ | .cycleStart | .schedWindowEnd
  | .grantDecision | .echoMismatch _ | .frameSentClean | .responseWaitExpiry | .replyReceptionEnd _ _ | .replyDeadline
  | .checkSlotsEnd | .closingGapEnd | .replyLeadingEdge _ | .bitTimeEnd _ _ => false

/-- A write to a register other than CMD (R164). -/
def writesRegister : Instr → Bool
  | .winSelWrite _ | .winIndexWrite _ | .winDataWrite _ | .eventWrite _ | .enableWrite _ => true
  | .registerWrite addr _ => addr != 5
  | .resetPinAssert _ | .resetPinRelease | .initEnd | .reset | .start | .stop | .halt | .resume | .lineCheckStuck
  | .lineCheckClear | .timingLoad | .threshLoad | .pin | .unpin | .clearConflict | .popChange | .stationSnap | .schedSet
  | .schedEnable | .schedDisable | .schedSnap | .take | .put | .submit | .cancel | .popCompletion | .unknownCommand _
  | .winDataRead | .cycleStart | .schedWindowEnd | .grantDecision | .echoMismatch _ | .frameSentClean
  | .responseWaitExpiry | .replyReceptionEnd _ _ | .replyDeadline | .checkSlotsEnd | .closingGapEnd
  | .replyLeadingEdge _ | .bitTimeEnd _ _ => false

/-- The change list with an address added (R40). -/
def Roster.listed (r : Roster) (a : Nat) : List Nat := if a ∈ r.changes then r.changes else r.changes ++ [a]

/-- The table after one entry has become `e` and the change list `changes`: everything else is as before. -/
structure Roster.Becomes (r r' : Roster) (a : Nat) (e : StationEntry) (changes : List Nat) : Prop where
  entry      : r'.entry a = e
  others     : ∀ b, b ≠ a → r'.entry b = r.entry b
  changes    : r'.changes = changes
  thresholds : r'.suspectAt = r.suspectAt ∧ r'.lostAt = r.lostAt ∧ r'.discRetries = r.discRetries

/-- The closing gap of an attempt for a schedule entry or a request is over, and its outcome is `out` (R76). -/
def State.attemptEnds (s : State) (r : Record) (out : LineOutcome) : Prop :=
  s.line.record = some r ∧ (∃ o, r.owner = .claim o) ∧ r.phase = .closing ∧ closingGap ≤ r.phaseTime ∧
    r.outcome = some out

/-- A word address names a register that takes no writes: read-only or unassigned (R165, R179). -/
def takesNoWrite (addr : BitVec 5) : Bool :=
  !([3, 4, 5, 6, 16, 17, 18, 19, 20, 21, 22, 23, 24] : List Nat).contains addr.toNat

/-- The regions the host fills: request stage, schedule stage, put buffer, pin stage (R168). -/
def hostFilled (sel : Word) : Bool := ([1, 2, 3, 6] : List Nat).contains sel.toNat

/-- What a cycle start does at the Cycle Timer (R50, R53, R55). -/
structure CycleTimer.Started (t t' : CycleTimer) : Prop where
  cycle    : t'.cycle = t.cycle + 1
  inForce  : t'.inForce = if t.pendingPresent then t.pendingSet else t.inForce
  pending  : t'.pendingSet = t.pendingSet ∧ t'.pendingPresent = false
  window   : t'.window = .sched
  counts   : t'.tickCount = t'.inForce.schedLen ∧ t'.prescaler = t'.inForce.tickdiv
  bitClock : t'.bitClock = t.bitClock

/-- What the end of the windows does at the Cycle Timer (R58). -/
structure CycleTimer.Closed (t t' : CycleTimer) : Prop where
  window   : t'.window = .noWindow ∧ t'.left = 0
  cycle    : t'.cycle = t.cycle
  sets     : t'.inForce = t.inForce ∧ t'.pendingSet = t.pendingSet ∧ t'.pendingPresent = t.pendingPresent
  bitClock : t'.bitClock = t.bitClock

/-- An entry IN_FLIGHT whose attempt is not on the line ends its issue, counted in failed; every other entry stays
(R118, R119). -/
def State.retriesEnded (s t : State) : Prop :=
  ∀ n, t.entry n =
    if (s.entry n).status = .inFlight ∧ s.entryOnLine n = false then (s.entry n).endIssue true else s.entry n

/-! ### Leaving RUNNING (R99, R100, R102, R118 to R120, R147) -/

/-- The completion of a sweep that ends with this outcome (R96, R142). -/
def Sweep.record (sw : Sweep) (o : LineOutcome) : Completion :=
  { tag := sw.tag, kind := .discover, address := 0, outcome := o, attempts := 0, status := .ok, length := 0, payload := []
    newStations := sw.newStations, rejoined := sw.rejoined, rounds := sw.rounds, totalNoisy := sw.totalNoisy }

/-- What a unit that is SWEEPING writes as its sweep ends; otherwise nothing. -/
def Discovery.ending (d : Discovery) (o : LineOutcome) : List Completion :=
  match d with
  | .sweeping sw => [sw.record o]
  | .idle | .inRound _ _ => []

/-- The engine's head has completed with the record `c`, beside what the unit wrote, in either order (log 8); the records behind
the head are the queue, and the head among them is UNTAKEN. -/
def State.headCompleted (s t : State) (c : Completion) (behind : List Request) (unit : List Completion) : Prop :=
  t.line.reqClaim = none ∧ ∃ written, (written = c :: unit ∨ written = unit ++ [c]) ∧ t.req = { s.req with
    queue := behind, head := .untaken, completions := s.req.completions ++ written
    reservations := s.req.reservations - 1 - unit.length }

/-- What the engine leaves of its head as the run state leaves RUNNING, the unit having written the records `unit`: an UNTAKEN
head and one whose attempt is on the line stay, a CLAIMED one becomes UNTAKEN with its claim withdrawn and its reservation
released, one that waits for a retry completes with its last outcome (R147). -/
structure State.HeadLeft (s t : State) (unit : List Completion) : Prop where
  stays   : s.req.head = .untaken ∨ s.req.head = .onLine → t.req = { s.req with
              completions := s.req.completions ++ unit, reservations := s.req.reservations - unit.length }
  claimed : s.req.head = .claimed → t.line.reqClaim = none ∧ t.req = { s.req with
              head := .untaken, completions := s.req.completions ++ unit
              reservations := s.req.reservations - 1 - unit.length }
  retry   : ∀ o n q behind, s.req.head = .retryWaiting o n → s.req.queue = q :: behind →
              s.headCompleted t (q.completion o n {}) behind unit

/-- A sweep that waits ends: the unit is IDLE, its claim withdrawn (R99, R100, R102). -/
def State.sweepLeft (s t : State) : Prop :=
  (∀ sw, s.disc = .sweeping sw → t.disc = .idle ∧ t.line.roundClaim = false) ∧ (s.disc = .idle → t.disc = .idle)

/-- An entry with no attempt on the line, once the run state is OFF or FAULTED: no due mark, no waiting retry, whose issue
counts in failed (R120). -/
def SchedEntry.returned (e : SchedEntry) : SchedEntry :=
  if e.status = .due ∨ e.status = .held then { e with status := .waiting }
  else if e.status = .inFlight then
    { e with
      status := if e.disablePending then .disabled else .waiting
      attempt := 0, disablePending := false, failed := min (e.failed + 1) 255 }
  else e

/-- An entry IN_FLIGHT as the outcome of its attempt ends its issue, counted in failed for the outcomes R116 names.  The reply
status kept with an outcome other than NAK is OK (log 24). -/
def SchedEntry.ended (e : SchedEntry) (o : LineOutcome) (reply : Reply) (cycle : Word) : SchedEntry :=
  { e with
    status := if e.disablePending then .disabled else .waiting
    attempt := 0, disablePending := false, lastOutcome := o, lastCycle := cycle
    lastStatus := if o = .nak then reply.status else .ok
    failed := if o = .timeout ∨ o = .checkError ∨ o = .lengthError ∨ o = .addressMismatch ∨ o = .lineError
      then min (e.failed + 1) 255 else e.failed }

/-- A mailbox as the outcome of an attempt of its entry is taken (R123, R130). -/
def Mailbox.taken (m : Mailbox) (e : SchedEntry) (o : LineOutcome) (reply : Reply) (cycle : Word) : Mailbox :=
  if e.direction = 1 then { m with fresh := if o = .ok then m.fresh && m.replaced else m.fresh, replaced := false }
  else if o ≠ .ok then m
  else if m.full = false then { m with data := reply.payload, fillCycle := cycle, full := true }
  else if e.policy = 0 then { m with overrun := min (m.overrun + 1) 255 }
  else { m with data := reply.payload, fillCycle := cycle, overrun := min (m.overrun + 1) 255 }

/-! ### The Scheduler's choice (R113, R114) -/

/-- Entry `n` may be issued but for its data: it is DUE, its target issuable, its reservation at most the bit times left
(R113). -/
def State.ready (s : State) (n : Nat) : Prop :=
  (s.entry n).status = .due ∧ s.roster.issuable (s.entry n).target.toNat = true ∧
    124 + 10 * (s.entry n).length.toNat + s.rw ≤ s.timer.left

/-- Entry `n` has something to send: a WRITE needs FRESH set under SKIP, data of length 1 or more under RESEND (R114). -/
def State.sends (s : State) (n : Nat) : Prop :=
  (s.entry n).direction = 1 →
    if (s.entry n).policy = 0 then (s.mailbox n).fresh = true else 1 ≤ (s.mailbox n).data.length

/-- The choice, made in the order of the entries, comes to entry `n` (R113). -/
def State.choiceReaches (s : State) (n : Nat) : Prop := ∀ k < n, ¬ (s.ready k ∧ s.sends k)

/-- `t` holds what the Scheduler's choice in `s` leaves of the claim and the schedule table: the claim is that of the first
entry that meets every condition, or none; the DUE WRITE entries met before it with nothing to send are skipped; every other
entry stays (R113, R114). -/
structure State.Chosen (s t : State) : Prop where
  placed    : ∀ n, s.choiceReaches n → s.ready n → s.sends n → t.line.schedClaim = some {
                owner := .scheduler n
                exchange := if (s.entry n).direction = 0 then .poll else .write
                dest := (s.entry n).target.toNat
                object := (s.entry n).object
                lc := if (s.entry n).direction = 0 then 0 else (s.entry n).length.toNat
                lr := if (s.entry n).direction = 0 then (s.entry n).length.toNat else 0
                attempt := 1
                compare := none }
  withdrawn : (∀ n, s.ready n → ¬ s.sends n) → t.line.schedClaim = none
  skipped   : ∀ n, s.choiceReaches n → s.ready n → ¬ s.sends n →
                t.entry n = { s.entry n with status := .waiting, skipped := min ((s.entry n).skipped + 1) 255 }
  kept      : ∀ n, ¬ (s.choiceReaches n ∧ s.ready n ∧ ¬ s.sends n) → t.entry n = s.entry n

/-- The Scheduler's claim and the schedule table as they were. -/
def State.sameSchedule (s t : State) : Prop := t.sched = s.sched ∧ t.line.schedClaim = s.line.schedClaim

/-- `t` is `s` but for the Scheduler's claim and the schedule entries. -/
def State.butSchedule (s t : State) : Prop :=
  t = { s with
    line := { s.line with schedClaim := t.line.schedClaim }, sched := { s.sched with entries := t.sched.entries } }

/-- A choice is due at the bit-time boundary: in RUNNING and SCHED the Scheduler holds a claim for a new issue whose
reservation exceeds the bit times left (R113). -/
def State.claimExceeds (s : State) : Prop :=
  s.run.state = .running ∧ s.timer.window = .sched ∧
    ∃ c, s.line.schedClaim = some c ∧ c.attempt = 1 ∧ s.timer.left < 124 + 10 * (c.lc + c.lr) + s.rw

/-- What a cycle start leaves of the Scheduler's claim and the schedule table: every entry as R110 to R112 have it, and then,
in RUNNING, the choice. -/
def State.cycleMarks (s t : State) : Prop :=
  let marked := { s with timer := t.timer }.updateEntries fun _ e =>
    e.atCycleStart t.timer.inForce (s.roster.issuable e.target.toNat)
  if t.run.state = .running then marked.Chosen t
  else (∀ n, t.entry n = marked.entry n) ∧ t.line.schedClaim = s.line.schedClaim

/-! ### Frames (R6, R64, R68, R71) -/

/-- A frame holds these fields with the check over them, and goes out as SYNC, HEADER, OBJECT, LENGTH, PAYLOAD, CHECK, the
check most significant byte first (R6, R10, section 12.6). -/
def Frame.laidOut (f : Frame) (header object : Byte) (payload : List Byte) : Prop :=
  let length := BitVec.ofNat 8 payload.length
  f.header = header ∧ f.object = object ∧ f.payload = payload ∧ f.check = crc (header :: object :: length :: payload) ∧
    f.bytes = 0xC6 :: header :: object :: length :: (payload ++ [f.check.extractLsb' 8 8, f.check.extractLsb' 0 8])

/-- The frame of a claim: POLL, WRITE with the owner's data, or RELEASE with mode 0; HEADER holds the kind in bits 7:6 and the
claim's destination in bits 5:0 (R7, R8, R68, section 12.6). -/
def Claim.sendsFrame (c : Claim) (data : List Byte) (f : Frame) : Prop :=
  (c.exchange = .poll → f.laidOut (0#2 ++ BitVec.ofNat 6 c.dest : BitVec (2 + 6)) c.object []) ∧
  (c.exchange = .write → f.laidOut (1#2 ++ BitVec.ofNat 6 c.dest : BitVec (2 + 6)) c.object data) ∧
  (c.exchange = .release → f.laidOut (3#2 ++ BitVec.ofNat 6 c.dest : BitVec (2 + 6)) 3 [0])

/-- The record of an attempt of a claim at the first bit of its frame (R62, R15). -/
def Claim.attemptRecord (c : Claim) (rw : Nat) (f : Frame) : Record :=
  { owner := .claim c.owner, exchange := some c.exchange, dest := c.dest, frame := f, lr := c.lr, source := some c.dest
    compare := c.compare, reservation := 124 + 10 * (c.lc + c.lr) + rw, attempt := c.attempt, phase := .sending
    outcome := none, reply := {}, part := .single, after := .finish, heard := 0, elapsed := 0, phaseTime := 0
    offGrid := false }

/-- The line as the first bit of a record's frame is to be driven: with the line idle the frame is driven; otherwise no bit is,
and the attempt is LINE_ERROR in its closing gap, an echo error in both counts (R64, R71). -/
def LineSequencer.checked (l : LineSequencer) (r : Record) : LineSequencer :=
  if l.idleRun = 4 then
    { l with record := some { r with
        phase := .sending, outcome := none, elapsed := 0, phaseTime := 0, offGrid := false } }
  else
    { l with
      record := some { r with phase := .closing, outcome := some .lineError, phaseTime := 0, offGrid := false, after := .finish }
      echoCount := l.echoCount + 1, lineErrors := min (l.lineErrors + 1) 65535 }

/-! ## The station table and the change list (R21, R24, R35, R40) -/

/-- Fields in the ranges of R21 (the identity and the cycle number have theirs by type). -/
def StationEntry.InRange (e : StationEntry) : Prop := e.failures ≤ 15 ∧ e.errorTotal ≤ 65535 ∧ e.rejoins ≤ 255

/-- A FREE entry holds identity 0 with pinned and conflict clear; an entry in another state holds an identity (R24). -/
def StationEntry.Identified (e : StationEntry) : Prop :=
  (e.state = .free → e.identity = 0 ∧ e.pinned = false ∧ e.conflict = false) ∧ (e.state ≠ .free → e.identity ≠ 0)

structure Roster.Lawful (r : Roster) : Prop where
  ranges     : ∀ a, (r.entry a).InRange
  identified : ∀ a, (r.entry a).Identified
  /-- A RESERVED entry always has pinned set (R37), and so has one that reverts to RESERVED. -/
  reserved   : ∀ a, (r.entry a).state = .reserved ∨ ((r.entry a).state = .joining ∧ (r.entry a).prior = .reserved) →
                 (r.entry a).pinned = true
  /-- No two entries whose state is other than FREE hold the same identity (R24). -/
  distinct   : ∀ a b, (r.entry a).state ≠ .free → (r.entry b).state ≠ .free →
                 (r.entry a).identity = (r.entry b).identity → a = b
  /-- Each address is on the change list at most once, and only stations' addresses are (R40). -/
  changes    : r.changes.Nodup ∧ ∀ a ∈ r.changes, stationAddress a = true
  /-- The thresholds are in range (R21). -/
  thresholds : 1 ≤ r.suspectAt ∧ r.suspectAt ≤ r.lostAt ∧ r.lostAt ≤ 15 ∧ 1 ≤ r.discRetries ∧ r.discRetries ≤ 7

/-! ## The Request Engine and its claims (R61, R83, R133 to R136) -/

/-- The owner of the transaction in flight. -/
def State.recordOwner (s : State) : Option RecordOwner := s.line.record.map Record.owner

/-- The transaction in flight is an attempt of a request or not (R61). -/
def RecordOwner.isRequest : RecordOwner → Bool
  | .claim (.request _) => true
  | .claim (.scheduler _) | .discovery | .beacon => false

def Claim.isRequest (c : Claim) : Bool := (RecordOwner.claim c.owner).isRequest

/-- A round is in flight from the unit's side (R83). -/
def Discovery.isRound : Discovery → Bool
  | .inRound _ _ => true
  | .idle | .sweeping _ => false

/-- Reservations the present work holds: one for a head taken up, one for a sweep (R135). -/
def State.heldReservations (s : State) : Nat :=
  (if s.req.head = .untaken then 0 else 1) + (if s.disc.active then 1 else 0)

/-- The tags of the queued requests and of a running sweep (R134). -/
def State.tagsInUse (s : State) : List Nat := s.req.queue.map Request.tag ++ s.disc.tag.toList

structure State.EngineLawful (s : State) : Prop where
  /-- An attempt of a request is on the line exactly while the head is IN_FLIGHT on the line (R136). -/
  onLine       : s.recordOwner.any RecordOwner.isRequest = true ↔ s.req.head = .onLine
  /-- The engine's claim is placed exactly while the head is CLAIMED or waits for a retry (R136). -/
  claim        : s.line.reqClaim.isSome = true ↔ s.req.head = .claimed ∨ s.req.head.isRetryWaiting = true
  claimOwner   : ∀ c, s.line.reqClaim = some c → c.isRequest = true
  /-- A round is on the line exactly while the unit is ROUND (R83). -/
  round        : s.recordOwner = some .discovery ↔ s.disc.isRound = true
  /-- The ROUND claim is placed exactly while the unit is SWEEPING (R83). -/
  roundClaim   : s.line.roundClaim = true ↔ s.disc.isSweeping = true
  head         : s.req.head ≠ .untaken → s.req.queue ≠ []
  reservations : s.req.reservations = s.heldReservations
  /-- The completion records plus the reservations never exceed 16 (R135). -/
  room         : s.req.completions.length + s.req.reservations ≤ 16
  /-- At most 16 requests, with tags pairwise different (R134). -/
  queue        : s.req.queue.length ≤ 16 ∧ s.tagsInUse.Nodup

/-! ## The run states (R56, R62, R67, R151, R157) -/

/-- RUNNING or DRAINING: the run states in which the windows run (R56). -/
def RunState.windowed : RunState → Bool
  | .running | .draining => true
  | .init | .off | .faulted | .checking => false

/-- FAULTED or CHECKING. -/
def RunState.faulty : RunState → Bool
  | .faulted | .checking => true
  | .init | .off | .running | .draining => false

/-- A record that only waits for the end of its closing gap. -/
def Record.runsOut (r : Record) : Prop := r.phase = .closing ∧ r.after = .finish

/-- A round in flight has seen the fault (R102). -/
def Discovery.roundFaulted : Discovery → Prop
  | .inRound sw _ => sw.faultSeen = true
  | .idle | .sweeping _ => True

structure State.RunLawful (s : State) : Prop where
  /-- The window is NONE exactly outside RUNNING and DRAINING (R56). -/
  window     : s.timer.window ≠ .noWindow ↔ s.run.state.windowed = true
  /-- No record is held in INIT and OFF (R151, R155). -/
  quiet      : s.run.state = .init ∨ s.run.state = .off → s.line.record = none
  /-- In FAULTED and CHECKING at most a closing gap runs out (R158, R159). -/
  runsOut    : s.run.state.faulty = true → ∀ r, s.line.record = some r → r.runsOut
  /-- Draining waits for a transaction in flight (R155, R156). -/
  draining   : s.run.state = .draining → s.line.record.isSome = true
  /-- Claims and the beacon wait for a grant in RUNNING alone (R67, R119, R120, R147). -/
  claims     : s.run.state ≠ .running →
                 s.line.beaconPending = false ∧ s.line.schedClaim = none ∧ s.line.reqClaim = none ∧ s.line.roundClaim = false
  roundClaim : s.line.roundClaim = true → s.disc.isSweeping = true
  reqClaim   : s.line.reqClaim.isSome = true → s.req.head = .claimed ∨ s.req.head.isRetryWaiting = true
  fault      : s.run.state.faulty = true → s.disc.roundFaulted
  /-- The line check runs exactly in CHECKING (R159, R160). -/
  check      : s.run.check ≠ .idle ↔ s.run.state = .checking
  /-- RESET# holds the block in INIT (R151). -/
  reset      : s.run.resetAsserted = true → s.run.state = .init

/-! ## JOINING entries (R32) -/

/-- The address whose ASSIGN exchange the unit waits for (R87). -/
def Discovery.joining : Discovery → Option Nat
  | .inRound _ rd => if rd.phase = .assignWait then some rd.address else none
  | .idle | .sweeping _ => none

/-- The round's ASSIGN exchange for this address is in flight, from the decision at 176 to its classification (R77, R78). -/
def Record.assigning (r : Record) (a : Nat) : Prop :=
  r.owner = .discovery ∧
    ((r.part = .slots ∧ r.phase = .closing ∧ ∃ i, r.after = .assign i a) ∨ (r.part = .assign ∧ r.phase ≠ .closing))

structure State.JoiningLawful (s : State) : Prop where
  /-- An entry is JOINING exactly while the ASSIGN exchange for it is in flight, so at most one is (R32). -/
  joining  : ∀ a, (s.roster.entry a).state = .joining ↔ s.disc.joining = some a
  exchange : ∀ a, s.disc.joining = some a → ∃ r, s.line.record = some r ∧ r.assigning a
  prior    : ∀ a, (s.roster.entry a).state = .joining → (s.roster.entry a).prior ≠ .joining
  /-- The parts of a round belong to a round (R77, R78). -/
  parts    : ∀ r, s.line.record = some r → r.part ≠ .single → r.owner = .discovery

/-! ## Health (R27) -/

/-- The count of consecutive failures agrees with ACTIVE or SUSPECT, as it stands or as it stood before JOINING (R27). -/
def Roster.countAgrees (r : Roster) (st : StationState) (n : Nat) : Prop :=
  (st = .active → n < r.suspectAt) ∧ (st = .suspect → r.suspectAt ≤ n ∧ n < r.lostAt)

structure Roster.HealthLawful (r : Roster) : Prop where
  thresholds : 1 ≤ r.suspectAt ∧ r.suspectAt ≤ r.lostAt ∧ r.lostAt ≤ 15
  counts     : ∀ a, r.countAgrees (r.entry a).state (r.entry a).failures
  joining    : ∀ a, (r.entry a).state = .joining → r.countAgrees (r.entry a).prior (r.entry a).failures

/-! ## Timing (R44, R45, R47) -/

/-- A valid timing set: every quantity in its range, and a beacon fits in its scheduled window (R44). -/
def TimingSet.Valid (t : TimingSet) : Prop :=
  (8 ≤ t.bitdiv ∧ t.bitdiv ≤ 4095) ∧ (1 ≤ t.tickdiv ∧ t.tickdiv ≤ 256) ∧ (1 ≤ t.schedLen ∧ t.schedLen ≤ 4095) ∧
    (1 ≤ t.openLen ∧ t.openLen ≤ 4095) ∧ (4 ≤ t.respWait ∧ t.respWait ≤ 255) ∧ 84 ≤ t.schedBits

structure CycleTimer.Lawful (t : CycleTimer) : Prop where
  inForce : t.inForce.Valid
  pending : t.pendingSet.Valid
  /-- While the flag is clear, the pending set holds the same values as the set in force (R45). -/
  same    : t.pendingPresent = false → t.pendingSet = t.inForce
  /-- The prescaler counts from TICKDIV down to 1 while ticks are left (R47). -/
  counts  : t.window ≠ .noWindow → t.tickCount = 0 ∨ (1 ≤ t.prescaler ∧ t.prescaler ≤ t.inForce.tickdiv)

/-! ## The schedule (R104, R107, R110, R113, R117) -/

/-- The configuration passes checks 2 to 8 of SCHED_ENABLE, and the live counts keep to it (R104, R107). -/
structure SchedEntry.Lawful (e : SchedEntry) (t : TimingSet) : Prop where
  target    : stationAddress e.target.toNat = true
  direction : e.isRead = true ∨ e.isWrite = true
  length    : 1 ≤ e.length.toNat ∧ e.length.toNat ≤ 32
  period    : 1 ≤ e.period.toNat ∧ e.period.toNat ≤ 255
  phase     : e.phase.toNat < e.period.toNat
  retries   : e.retries.toNat ≤ 3
  policy    : e.policy.toNat ≤ 1
  /-- The reservation is no greater than the scheduled-window length in force (R110). -/
  fits      : e.reservation t.respWait ≤ t.schedBits
  countdown : e.countdown < e.period.toNat
  /-- At most 1 + retries attempts are made for one issue (R117). -/
  attempt   : e.attempt ≤ 1 + e.retries.toNat

structure State.SchedLawful (s : State) : Prop where
  enabled : ∀ n, (s.entry n).enabled = true → (s.entry n).Lawful s.timer.inForce
  /-- The Scheduler holds a claim in the scheduled window of RUNNING alone (R118, R119, R120). -/
  placed  : s.line.schedClaim.isSome = true → s.scheduling = true
  /-- The claim is for an entry DUE or waiting for a retry, within its retry limit (R113, R117). -/
  claim   : ∀ c n, s.line.schedClaim = some c → c.owner = .scheduler n →
              ((s.entry n).status = .due ∨ (s.entry n).status = .inFlight) ∧ c.attempt ≤ 1 + (s.entry n).retries.toNat

/-! ## INIT (R151, R153) -/

/-- The block as it stands in INIT: every block at its reset values but for the result of a command refused NOT_READY, the
bus, and what is no part of the block. -/
def State.heldInInit (s : State) : State :=
  { State.reset with
    run := { State.reset.run with resetAsserted := s.run.resetAsserted }
    host := { State.reset.host with result := s.host.result, resultVal := s.host.resultVal }
    dataBus := s.dataBus
    freeIndex := s.freeIndex
    pending := s.pending }

/-- In INIT the block holds its reset values, and the result is DONE or NOT_READY with value 0 (R153). -/
def State.InitLawful (s : State) : Prop :=
  (s.run.resetAsserted = true → s.run.state = .init) ∧
  (s.run.state = .init →
    s = s.heldInInit ∧ (s.host.result = .done ∨ s.host.result = .notReady) ∧ s.host.resultVal = 0)

/-! ## The line's counts (R64, R71) -/

/-- The counts of the Line Sequencer in their ranges (R64, R71). -/
def State.LineCountsLawful (s : State) : Prop :=
  s.line.idleRun ≤ 4 ∧ s.line.echoCount ≤ 8 ∧ s.line.lineErrors ≤ 65535

end Sys2Proof.Machine
end

