-- ==== Sys2Proof/WellFormed.lean ====
section
/-! DEFINITION. Well-formed commands: the operands that the row of a command speaks of. -/

namespace Sys2Proof

/-- The 21 command codes (section 12.3). -/
def commandCodes : List Nat :=
  [0x01, 0x02, 0x03, 0x04, 0x05, 0x10, 0x20, 0x21, 0x22, 0x23, 0x24, 0x25, 0x30, 0x31, 0x32, 0x33, 0x40, 0x41, 0x50, 0x51,
   0x52]

/-- The word addresses of the registers whose writes have rows of their own: EVENT, ENABLE, CMD, WIN_SEL, WIN_INDEX,
WIN_DATA (section 12.1). -/
def ownRowAddresses : List Nat := [3, 4, 5, 22, 23, 24]

/-- UNKNOWN_COMMAND carries a code that names no command (R172); REGISTER_WRITE goes to a register without a row of its
own (R165); the bytes of REPLY_RECEPTION_END are as many as their LENGTH byte declares (R13).  A command that is not
well-formed has its meaning all the same (log 17, log 18). -/
def wellFormed (c : Instr) : Bool :=
  match c with
  | .unknownCommand code => !commandCodes.contains code.toNat
  | .registerWrite addr _ => !ownRowAddresses.contains addr.toNat
  | .replyReceptionEnd bytes _ => Machine.rxComplete bytes
  | .resetPinAssert _ | .resetPinRelease | .initEnd => true
  | .reset | .start | .stop | .halt | .resume | .lineCheckStuck | .lineCheckClear => true
  | .timingLoad | .threshLoad | .pin | .unpin | .clearConflict | .popChange | .stationSnap => true
  | .schedSet | .schedEnable | .schedDisable | .schedSnap | .take | .put => true
  | .submit | .cancel | .popCompletion => true
  | .winSelWrite _ | .winIndexWrite _ | .winDataRead | .winDataWrite _ | .eventWrite _ | .enableWrite _ => true
  | .cycleStart | .schedWindowEnd | .grantDecision | .echoMismatch _ | .frameSentClean | .responseWaitExpiry => true
  | .replyDeadline | .checkSlotsEnd | .closingGapEnd | .replyLeadingEdge _ | .bitTimeEnd _ _ => true

end Sys2Proof
end

