-- ==== Sys2Proof/Certificates/Slice0/Obligations.lean ====
section
/-! DEFINITION. The statements about the TF7230, for the provers.  OBLIGATIONS.json lists them. -/

open Sys2Proof Sys2Proof.Machine

/-! ## Steps, reset and initialisation -/


/-- A step runs the command at the front of the queue on the rest of the queue, and the queue it leaves is that rest (the row's
cut; R1, R171: claims and accesses are taken one at a time, in order).  On an empty queue the block idles: the model's choice
(log 5). -/
def Obligations.StepRunsFrontCommand : Prop :=
  (∀ (c : Instr) (s : State) (rest : List Instr), step (s.setPending (c :: rest)) = exec c (s.setPending rest)) ∧
  (∀ (c : Instr) (s t : State), exec c s = .next t → t.pending = s.pending) ∧
  (∀ s : State, s.pending = [] → step s = .next s)

/-- The values after reset that the manual gives, each field of an entry, a mailbox and a buffer by itself (R22, R44, R45, R55,
R82, R83, R105, R121, R149, R150, R177). -/
def Obligations.ResetValues : Prop :=
  let s := State.reset
  s.run.state = .init ∧ s.run.lineCheck = .none ∧
  (∀ a, s.roster.entry a = {
    state := .free, pinned := false, conflict := false, identity := 0, failures := 0, errorTotal := 0, replied := false
    lastReply := 0, rejoins := 0, prior := .free }) ∧
  s.roster.changes = [] ∧ (s.roster.suspectAt, s.roster.lostAt, s.roster.discRetries) = (3, 6, 4) ∧
  s.timer.inForce = ⟨48, 16, 125, 125, 16⟩ ∧ s.timer.pendingSet = ⟨48, 16, 125, 125, 16⟩ ∧
  s.timer.pendingPresent = false ∧ s.timer.window = .noWindow ∧ s.timer.cycle = 0 ∧ s.timer.bitClock = false ∧
  s.line.record = none ∧ s.line.schedClaim = none ∧ s.line.reqClaim = none ∧ s.line.roundClaim = false ∧
  s.line.beaconPending = false ∧ s.line.lastGrant = .discovery ∧ s.line.idleRun = 0 ∧ s.line.echoCount = 0 ∧
  s.line.lineErrors = 0 ∧ s.ltx = .recessive ∧ s.disc = .idle ∧
  (∀ n, s.entry n = {
    target := 0, object := 0, direction := 0, length := 0, period := 0, phase := 0, retries := 0, policy := 0
    status := .disabled, countdown := 0, attempt := 0, late := 0, skipped := 0, failed := 0, lastOutcome := .ok
    lastStatus := .ok, lastCycle := 0, disablePending := false }) ∧
  (∀ n, s.mailbox n = {
    data := [], fillCycle := 0, full := false, fresh := false, overrun := 0, replaced := false }) ∧
  s.req.queue = [] ∧ s.req.completions = [] ∧ s.req.reservations = 0 ∧
  s.host.reqStage.cells = List.replicate 20 0 ∧ s.host.schedStage.cells = List.replicate 6 0 ∧
  s.host.pinStage.cells = List.replicate 4 0 ∧ s.host.putBuf.cells = List.replicate 17 0 ∧
  s.host.takeBuf.cells = List.replicate 19 0 ∧ s.host.snap.cells = List.replicate 12 0 ∧
  (s.host.snap.get 0 0).extractLsb' 0 2 = 0 ∧ s.host.result = .done ∧ s.eventWord = 0 ∧ s.irqAsserted = false ∧
  (∀ addr : BitVec 5, s.readReg addr = match addr.toNat with
    | 0 => 0x7230 | 1 => 0x0001 | 16 => 0x0030 | 17 => 0x0010 | 18 => 0x007D | 19 => 0x007D | 20 => 0x0010 | 21 => 0x0463
    | _ => 0)

/-- RESET# holds every block at its reset values and its release begins initialisation; a bus read that the assertion cuts
returns an undefined value (R151, R153).  The bus word and the queue survive: log 6. -/
def Obligations.ResetPinHoldsBlock : Prop :=
  (∀ s : State, exec (.resetPinAssert false) s = .next (s.resetBlocks true)) ∧
  (∀ s : State, s.run.resetAsserted = false →
    ∃ v, exec (.resetPinAssert true) s = .next { s.resetBlocks true with dataBus := v, freeIndex := s.freeIndex + 1 }) ∧
  (∀ s : State, s.run.resetAsserted = true → exec .resetPinRelease s = .next (s.resetBlocks false)) ∧
  (∀ (s : State) (b : Bool), s.resetBlocks b =
    { State.reset with run := { State.reset.run with resetAsserted := b }, dataBus := s.dataBus, freeIndex := s.freeIndex,
                       pending := s.pending })

/-- While RESET# is asserted writes are ignored and leave no result; during INIT commands are refused NOT_READY with value 0
and change nothing else, other writes are ignored, and in both a read of WIN_DATA returns 0 and moves no index
(R151, R153). -/
def Obligations.HostAccessWhileHeld : Prop :=
  ∀ (c : Instr) (s : State),
    (s.run.resetAsserted = true → writesCommand c = true ∨ writesRegister c = true → exec c s = .next s) ∧
    (s.run.resetAsserted = false → s.run.state = .init → writesCommand c = true →
      exec c s = .next (s.setResult .notReady 0)) ∧
    (s.run.state = .init → writesRegister c = true → exec c s = .next s) ∧
    (s.run.resetAsserted = true ∨ s.run.state = .init → exec .winDataRead s = .next (s.setDataBus 0))


/-- RESET in any run state after INIT leaves every block at its reset values in INIT, CMD and RESULT included; the end of
initialisation makes the run state OFF, starts the bit clock, sets INIT_DONE, and changes nothing else (R152, R153).  The bus
word, the count of free values and the queue survive a reset: log 6. -/
def Obligations.ResetAndInit : Prop :=
  (∀ s : State, s.accepts →
    exec .reset s = .next { State.reset with dataBus := s.dataBus, freeIndex := s.freeIndex, pending := s.pending }) ∧
  (∀ s : State, s.run.resetAsserted = false → s.run.state = .init →
    exec .initEnd s = .next { s with
      run := { s.run with state := .off }
      timer := { s.timer with bitClock := true }
      host := { s.host with sticky := { s.host.sticky with initDone := true } } })

/-- In INIT every block keeps its reset values but for the result NOT_READY, and no step leaves that form: the run state is
INIT while RESET# is asserted (R151, R153). -/
def Obligations.InitHoldsResetValues : Prop := ∀ s t : State, s.InitLawful → step s = .next t → t.InitLawful

/-- Every law that the invariants below speak of holds right after reset. -/
def Obligations.LawsHoldAtReset : Prop :=
  State.reset.InitLawful ∧ State.reset.RunLawful ∧ State.reset.timer.Lawful ∧ State.reset.LineCountsLawful ∧
  State.reset.roster.Lawful ∧ State.reset.JoiningLawful ∧ State.reset.roster.HealthLawful ∧ State.reset.SchedLawful ∧
  State.reset.EngineLawful

/-! ## Run Control -/

/-- START in OFF: RUNNING, with a cycle start at the timer, the beacon pending, the consecutive echo count 0, CYC set and the
result DONE; the entries are marked and the Scheduler chooses; a head that passes the head checks is claimed (R57, R67, R71,
R110 to R114, R136, R138, R154).  The station table, the mailboxes and the record in flight are not touched. -/
def Obligations.StartEntersRunning : Prop :=
  ∀ s : State, s.run.resetAsserted = false → s.run.state = .off →
    ∃ t, exec .start s = .next t ∧
      t.run = { s.run with state := .running } ∧ s.timer.Started t.timer ∧ t.roster = s.roster ∧
      t.sched.mailboxes = s.sched.mailboxes ∧ s.cycleMarks t ∧
      t.line.record = s.line.record ∧ t.line.beaconPending = true ∧ t.line.echoCount = 0 ∧
      t.line.lineErrors = s.line.lineErrors ∧ t.line.idleRun = s.line.idleRun ∧ t.line.lastGrant = s.line.lastGrant ∧
      (s.disc = .idle → s.req.queue = [] → t.disc = .idle ∧ t.req = s.req ∧ t.line.reqClaim = s.line.reqClaim) ∧
      (∀ q behind, s.disc = .idle → s.req.queue = q :: behind → s.req.head = .untaken →
        s.req.completions.length + s.req.reservations < 16 → q.kind ≠ .discover → q.targetPasses s.roster = true →
        requestReservation q.kind q.length t.rw ≤ t.timer.inForce.openBits →
        t.line.reqClaim = some (q.claim 1 s.roster) ∧
        t.req = { s.req with head := .claimed, reservations := s.req.reservations + 1 }) ∧
      t.host = { s.host with
        cmd := 0x02, result := .done, resultVal := 0
        sticky := { s.host.sticky with
          cyc := true
          starve := s.host.sticky.starve || s.sched.entries.cells.any fun e => e.starves t.timer.inForce } } ∧
      t.dataBus = s.dataBus ∧ t.freeIndex = s.freeIndex ∧ t.pending = s.pending

/-- STOP in RUNNING with a transaction in flight: DRAINING with result value 1; the transaction, the windows and the station
table are untouched, claims and the beacon are withdrawn, waiting retries of the schedule end, a CLAIMED head becomes UNTAKEN
with its reservation released, a request that waits for a retry completes with the outcome and the number of its last attempt,
a sweep that waits ends STOPPED (R155, R79, R119, R147, R99). -/
def Obligations.StopDrains : Prop :=
  ∀ s : State, s.run.resetAsserted = false → s.run.state = .running → s.line.record.isSome = true →
    ∃ t, exec .stop s = .next t ∧
      t.run = { s.run with state := .draining } ∧ t.timer = s.timer ∧ t.roster = s.roster ∧
      t.line.record = s.line.record ∧ t.line.beaconPending = false ∧ t.line.schedClaim = none ∧
      s.HeadLeft t (s.disc.ending .stopped) ∧ s.sweepLeft t ∧
      (∀ sw, s.disc = .sweeping sw → sw.record .stopped ∈ t.req.completions) ∧
      s.retriesEnded t ∧ t.sched.mailboxes = s.sched.mailboxes ∧
      (∀ sw rd, s.disc = .inRound sw rd → t.disc = s.disc) ∧
      t.host = { s.host with cmd := 0x03, result := .done, resultVal := 1 } ∧
      t.dataBus = s.dataBus ∧ t.pending = s.pending

/-- STOP with nothing in flight, in RUNNING, FAULTED or CHECKING: OFF with DRAINED set and the window NONE; a line check in
progress is abandoned with its result kept, and no entry is left DUE or HELD.  In RUNNING a CLAIMED head becomes UNTAKEN with its
reservation released, a head that waits for a retry completes with its last outcome, a sweep that waits ends STOPPED, and a
schedule entry that waits for a retry ends its issue, counted in failed.  In FAULTED and CHECKING a closing gap that
still runs is cut, and LINE_ERROR goes at once to the Roster and the owner: an issue ends counted in failed, a request
completes, the sweep of a round that saw the fault ends LINE_ERROR, one more noisy round where the CONTEND frame failed
(R155, R58, R80, R99, R102, R120, R147).  That the reply status kept with LINE_ERROR is OK is the model's choice (log 24). -/
def Obligations.StopGoesOff : Prop :=
  let off := fun (s t : State) =>
    t.run = { s.run with state := .off, check := .idle } ∧ s.timer.Closed t.timer ∧
      t.line.record = none ∧ t.line.beaconPending = false ∧ t.line.schedClaim = none ∧
      (∀ n, (t.entry n).status ≠ .due ∧ (t.entry n).status ≠ .held) ∧
      t.host = { s.host with
        cmd := 0x03, result := .done, resultVal := 0, sticky := { s.host.sticky with drained := true } } ∧
      t.dataBus = s.dataBus ∧ t.pending = s.pending
  (∀ s : State, s.run.resetAsserted = false →
    s.run.state = .running ∨ s.run.state = .faulted ∨ s.run.state = .checking → s.line.record = none →
    ∃ t, exec .stop s = .next t ∧ off s t ∧ t.sched.mailboxes = s.sched.mailboxes ∧ t.roster = s.roster ∧
      (∀ n, t.entry n = (s.entry n).returned) ∧
      (s.run.state = .running → s.HeadLeft t (s.disc.ending .stopped) ∧ s.sweepLeft t) ∧
      (s.run.state ≠ .running → t.req = s.req ∧ t.disc = s.disc)) ∧
  (∀ (s : State) (r : Record), s.run.resetAsserted = false → s.run.state = .faulted ∨ s.run.state = .checking →
    s.line.record = some r → r.phase = .closing → r.outcome = some .lineError →
    (r.owner = .beacon → ∃ t, exec .stop s = .next t ∧ off s t ∧ t.sched.mailboxes = s.sched.mailboxes ∧
      t.roster = s.roster ∧ t.disc = s.disc ∧ t.req = s.req) ∧
    (∀ n, r.owner = .claim (.scheduler n) → n < 32 → (s.entry n).status = .inFlight →
      ∃ t, exec .stop s = .next t ∧ off s t ∧ t.disc = s.disc ∧ t.req = s.req ∧
        t.roster = s.roster.deliver (r.exchange == some .release) .lineError r.dest s.timer.cycle ∧
        t.entry n = { s.entry n with
          status := if (s.entry n).disablePending then .disabled else .waiting
          attempt := 0, disablePending := false, lastOutcome := .lineError, lastStatus := .ok
          lastCycle := s.timer.cycle, failed := min ((s.entry n).failed + 1) 255 } ∧
        ∀ k, t.mailbox k = { s.mailbox k with
          replaced := (s.mailbox k).replaced && !(k == n && (s.entry n).direction == 1) }) ∧
    (∀ tag q behind, r.owner = .claim (.request tag) → s.req.queue = q :: behind →
      ∃ t, exec .stop s = .next t ∧ off s t ∧ t.sched.mailboxes = s.sched.mailboxes ∧ t.disc = s.disc ∧
        t.roster = s.roster.deliver (r.exchange == some .release) .lineError r.dest s.timer.cycle ∧
        t.req = { s.req with
          queue := behind, head := .untaken
          completions := s.req.completions ++ [q.completion .lineError r.attempt r.reply]
          reservations := s.req.reservations - 1 }) ∧
    (∀ sw rd, r.owner = .discovery → s.disc = .inRound sw rd → sw.faultSeen = true → rd.phase ≠ .assignWait →
      ∃ t, exec .stop s = .next t ∧ off s t ∧ t.sched.mailboxes = s.sched.mailboxes ∧ t.roster = s.roster ∧
        t.disc = .idle ∧
        t.req = { s.req with
          completions := s.req.completions ++ [{
            tag := sw.tag, kind := .discover, address := 0, outcome := .lineError, attempts := 0, status := .ok, length := 0
            payload := [], newStations := sw.newStations, rejoined := sw.rejoined, rounds := sw.rounds
            totalNoisy := if r.part = .contend then min (sw.totalNoisy + 1) 255 else sw.totalNoisy }]
          reservations := s.req.reservations - 1 }))

/-- HALT: OFF at once with LTX released, no record, the window NONE and DRAINED set; the echo counts and the line-check result
are kept.  An attempt that was sending, waiting or receiving ends ABORTED, one in its closing gap with its outcome, at the Roster
and at its owner: a request completes, an issue ends without a retry.  A round ends with its JOINING entry reverted and its sweep
ABORTED, or LINE_ERROR where a fault was seen, one more noisy round where the CONTEND frame failed.  A sweep that waits ends
ABORTED, a CLAIMED head becomes UNTAKEN, waiting retries end, and no entry is left DUE or HELD; with no transaction in flight the
Roster and the mailboxes stay (R80, R100, R120, R147, R148, R157).  That no head is taken up behind the completion of a cut
attempt is the model's choice (log 21), and so is the reply status OK kept with an outcome other than NAK (log 24). -/
def Obligations.HaltCutsToOff : Prop :=
  ∀ s : State, s.run.resetAsserted = false →
    s.run.state = .running ∨ s.run.state = .draining ∨ s.run.state = .faulted ∨ s.run.state = .checking →
    let cut := fun (r : Record) (out : LineOutcome) => if r.phase = .closing then r.outcome = some out else out = .aborted
    ∃ t, exec .halt s = .next t ∧
      t.run = { s.run with state := .off, check := .idle } ∧ s.timer.Closed t.timer ∧
      t.line.record = none ∧ t.ltx = .recessive ∧ t.line.beaconPending = false ∧ t.line.schedClaim = none ∧
      t.line.echoCount = s.line.echoCount ∧ t.line.lineErrors = s.line.lineErrors ∧ t.line.idleRun = s.line.idleRun ∧
      t.host = { s.host with
        cmd := 0x04, result := .done, resultVal := 0
        sticky := { s.host.sticky with drained := true, mbx := t.host.sticky.mbx } } ∧
      t.dataBus = s.dataBus ∧ t.pending = s.pending ∧
      (∀ n, (t.entry n).status ≠ .due ∧ (t.entry n).status ≠ .held) ∧
      (∀ n, s.entryOnLine n = false → t.entry n = (s.entry n).returned) ∧ s.sweepLeft t ∧
      (s.line.record = none → t.roster = s.roster) ∧
      (∀ r, s.line.record = some r → r.owner = .beacon → t.roster = s.roster) ∧
      ((∀ r n, s.line.record = some r → r.owner ≠ .claim (.scheduler n)) →
        t.sched.mailboxes = s.sched.mailboxes ∧ t.host.sticky.mbx = s.host.sticky.mbx) ∧
      ((∀ r, s.line.record = some r → r.owner = .beacon ∨ ∃ n, r.owner = .claim (.scheduler n)) →
        s.HeadLeft t (s.disc.ending .aborted)) ∧
      (∀ r o out, s.line.record = some r → r.owner = .claim o → cut r out →
        t.roster = s.roster.deliver (r.exchange == some .release) out r.dest s.timer.cycle ∧
        (r.phase ≠ .closing → t.roster = s.roster)) ∧
      (∀ r tag q behind out, s.line.record = some r → r.owner = .claim (.request tag) → s.req.queue = q :: behind → cut r out →
        s.headCompleted t (q.completion out r.attempt (if r.phase = .closing then r.reply else {})) behind
          (s.disc.ending .aborted)) ∧
      (∀ r n out, s.line.record = some r → r.owner = .claim (.scheduler n) → (s.entry n).status = .inFlight → cut r out →
        let e := s.entry n
        let m := s.mailbox n
        t.entry n = e.ended out r.reply s.timer.cycle ∧
        (∀ k, t.mailbox k = if k = n then m.taken e out r.reply s.timer.cycle else s.mailbox k) ∧
        t.host.sticky.mbx =
          (s.host.sticky.mbx || (out == .ok && e.direction != 1 && !(m.full && e.policy == 0)))) ∧
      (∀ r sw rd, s.line.record = some r → r.owner = .discovery → s.disc = .inRound sw rd →
        let e := s.roster.entry rd.address
        let sw' := if r.part = .contend ∧ r.outcome = some .lineError then
          { sw with consecutiveNoisy := min (sw.consecutiveNoisy + 1) 7, totalNoisy := min (sw.totalNoisy + 1) 255 } else sw
        t.disc = .idle ∧ t.line.roundClaim = false ∧
        s.HeadLeft t [sw'.record (if sw.faultSeen then .lineError else .aborted)] ∧
        (rd.phase = .assignWait → e.state = .joining →
          s.roster.Becomes t.roster rd.address (if e.prior = .free then {} else { e with state := e.prior })
            (s.roster.listed rd.address)) ∧
        (rd.phase ≠ .assignWait → t.roster = s.roster))

/-- RESUME in FAULTED begins the line check; a dominant sample ends it STUCK in FAULTED with CHECK_DONE set; nothing else
changes (R159, R160). -/
def Obligations.ResumeAndStuckCheck : Prop :=
  (∀ s : State, s.run.resetAsserted = false → s.run.state = .faulted →
    exec .resume s = .next ({ s with run := { s.run with state := .checking, check := .armed } }.replied 0x05 .done 0)) ∧
  (∀ s : State, s.run.state = .checking → (∃ n, s.run.check = .sampling n ∧ n < 32) ∨ s.run.check = .dominant →
    exec .lineCheckStuck s = .next { s with
      run := { s.run with state := .faulted, check := .idle, lineCheck := .stuck }
      host := { s.host with sticky := { s.host.sticky with checkDone := true } } })

/-- After 32 recessive samples the check ends CLEAR: RUNNING with a cycle start, CHECK_DONE and CYC set, the consecutive echo
count 0, the beacon pending and the Scheduler's choice made; the bit clock and the host's registers are not touched (R160, R60,
R81, R110 to R114). -/
def Obligations.ClearCheckRuns : Prop :=
  ∀ (s : State) (n : Nat), s.run.state = .checking → s.run.check = .sampling n → 32 ≤ n →
    ∃ t, exec .lineCheckClear s = .next t ∧
      t.run = { s.run with state := .running, check := .idle, lineCheck := .clear } ∧ s.timer.Started t.timer ∧
      t.roster = s.roster ∧ t.sched.mailboxes = s.sched.mailboxes ∧ s.cycleMarks t ∧
      t.line.record = s.line.record ∧ t.line.beaconPending = true ∧ t.line.echoCount = 0 ∧
      t.line.lineErrors = s.line.lineErrors ∧
      (s.disc = .idle → s.req.queue = [] → t.disc = .idle ∧ t.req = s.req ∧ t.line.reqClaim = s.line.reqClaim) ∧
      t.host = { s.host with
        sticky := { s.host.sticky with
          cyc := true
          checkDone := true
          starve := s.host.sticky.starve || s.sched.entries.cells.any fun e => e.starves t.timer.inForce } } ∧
      t.dataBus = s.dataBus ∧ t.freeIndex = s.freeIndex ∧ t.pending = s.pending

/-- START outside OFF, STOP in DRAINING or OFF, HALT in OFF and RESUME outside FAULTED are refused BAD_STATE with value 0, and
nothing but CMD and the result changes (R154, R155, R157, R159, R171; CMD after a refusal: log 10). -/
def Obligations.RunCommandsRefused : Prop :=
  ∀ s : State, s.accepts →
    (s.run.state ≠ .off → exec .start s = .next (s.replied 0x02 .badState 0)) ∧
    (s.run.state = .draining ∨ s.run.state = .off → exec .stop s = .next (s.replied 0x03 .badState 0)) ∧
    (s.run.state = .off → exec .halt s = .next (s.replied 0x04 .badState 0)) ∧
    (s.run.state ≠ .faulted → exec .resume s = .next (s.replied 0x05 .badState 0))

/-- The laws of the run states: windows run in RUNNING and DRAINING alone, no record is held in INIT and OFF, FAULTED and
CHECKING only run out a closing gap, claims wait in RUNNING alone (R56, R62, R67, R151, R155 to R160). -/
def Obligations.RunStateLaw : Prop := ∀ s t : State, s.RunLawful → step s = .next t → t.RunLawful

/-! ## Cycle Timer -/

/-- TIMING_LOAD makes its seven checks in order; when none fails the staged set becomes the pending set and the flag is set;
a refusal changes nothing but CMD and the result (R48, R49, R171; CMD after a refusal: log 10). -/
def Obligations.TimingLoadChecks : Prop :=
  ∀ s : State, s.accepts →
    let h := s.host
    exec .timingLoad s = .next (
      if ¬ (8 ≤ h.tBitdiv.toNat ∧ h.tBitdiv.toNat ≤ 4095) then s.replied 0x10 .badArg 1
      else if ¬ (1 ≤ h.tTickdiv.toNat ∧ h.tTickdiv.toNat ≤ 256) then s.replied 0x10 .badArg 2
      else if ¬ (1 ≤ h.tSched.toNat ∧ h.tSched.toNat ≤ 4095) then s.replied 0x10 .badArg 3
      else if ¬ (1 ≤ h.tOpen.toNat ∧ h.tOpen.toNat ≤ 4095) then s.replied 0x10 .badArg 4
      else if ¬ (4 ≤ h.tResp.toNat ∧ h.tResp.toNat ≤ 255) then s.replied 0x10 .badArg 5
      else if h.tSched.toNat * h.tTickdiv.toNat < 84 then s.replied 0x10 .badArg 6
      else if h.tBitdiv.toNat ≠ s.timer.inForce.bitdiv ∧ s.run.state ≠ .off then s.replied 0x10 .badState 1
      else { s with timer := { s.timer with
        pendingSet := ⟨h.tBitdiv.toNat, h.tTickdiv.toNat, h.tSched.toNat, h.tOpen.toNat, h.tResp.toNat⟩
        pendingPresent := true } }.replied 0x10 .done 0)

/-- The expiry of the open window is a cycle start: the cycle number, the pending set and the scheduled window at the timer,
CYC, the beacon pending in RUNNING alone, and the schedule's marks.  In RUNNING the Scheduler then chooses: the claim placed is
that of the lowest-numbered DUE entry whose target is issuable, whose reservation fits and that has data to send, and a DUE
WRITE entry met before it is skipped only for want of data.  Unless a pending set is applied the unit and the engine stay
(R50, R53, R55, R67, R85, R110 to R114). -/
def Obligations.OpenExpiryStartsCycle : Prop :=
  ∀ s : State, s.timer.window = .openWin → s.timer.tickCount = 0 →
    ∃ t, exec .cycleStart s = .next t ∧
      s.timer.Started t.timer ∧ t.run = s.run ∧ t.roster = s.roster ∧ t.sched.mailboxes = s.sched.mailboxes ∧
      s.cycleMarks t ∧ t.line.record = s.line.record ∧
      t.line.beaconPending = (s.line.beaconPending || s.run.state == .running) ∧
      t.host = { s.host with sticky := { s.host.sticky with
        cyc := true
        starve := s.host.sticky.starve || s.sched.entries.cells.any fun e => e.starves t.timer.inForce } } ∧
      (s.timer.pendingPresent = false → t.disc = s.disc ∧ t.req = s.req) ∧
      t.dataBus = s.dataBus ∧ t.freeIndex = s.freeIndex ∧ t.pending = s.pending

/-- An enabled entry at a cycle start, not IN_FLIGHT: STARVED when it does not fit, and otherwise the nine lines of R112 by
the status before, the due point and the target (R110, R112).  Nothing else of the entry changes but the countdown. -/
def Obligations.DueMarkTable : Prop :=
  ∀ (e : SchedEntry) (t : TimingSet) (issuable : Bool), e.enabled = true → e.status ≠ .inFlight →
    let e' := e.atCycleStart t issuable
    let c := if e.countdown = 0 then e.period.toNat - 1 else e.countdown - 1
    (t.schedBits < e.reservation t.respWait → e' = { e with status := .starved }) ∧
    (e.reservation t.respWait ≤ t.schedBits →
      (e.status = .waiting → e.countdown ≠ 0 → e' = { e with countdown := c }) ∧
      (e.status = .waiting → e.countdown = 0 → issuable = true → e' = { e with countdown := c, status := .due }) ∧
      (e.status = .waiting → e.countdown = 0 → issuable = false →
        e' = { e with countdown := c, status := .held, skipped := satSucc 255 e.skipped }) ∧
      (e.status = .due → e.countdown ≠ 0 → issuable = true → e' = { e with countdown := c }) ∧
      (e.status = .due → issuable = false →
        e' = { e with countdown := c, status := .held, skipped := satSucc 255 e.skipped }) ∧
      (e.status = .due → e.countdown = 0 → issuable = true →
        e' = { e with countdown := c, late := satSucc 255 e.late }) ∧
      (e.status = .held → e.countdown ≠ 0 → e' = { e with countdown := c }) ∧
      (e.status = .held → e.countdown = 0 → issuable = true → e' = { e with countdown := c, status := .due }) ∧
      (e.status = .held → e.countdown = 0 → issuable = false →
        e' = { e with countdown := c, skipped := satSucc 255 e.skipped }))

/-- Counting down: for an enabled entry that fits, a countdown of 0 is a due point and reloads period - 1, and any other goes
down by 1 and is none, whatever the status; so after enabling with phase p the due points are the (p + 1)th cycle start and
every period-th after it, whatever the target's state at each (R111). -/
def Obligations.CountdownDuePoints : Prop :=
  ∀ (e : SchedEntry) (t : TimingSet), e.enabled = true → e.reservation t.respWait ≤ t.schedBits →
    (∀ issuable, (e.atCycleStart t issuable).countdown =
      if e.countdown = 0 then e.period.toNat - 1 else e.countdown - 1) ∧
    (e.countDown.2 = true ↔ e.countdown = 0) ∧
    (∀ issuables : List Bool, e.countdown < e.period.toNat →
      ((issuables.foldl (fun e issuable => e.atCycleStart t issuable) e).countDown.2 = true ↔
        issuables.length % e.period.toNat = e.countdown))

/-- The scheduled-window end: the open window opens with its length, the Scheduler's claim is withdrawn, waiting retries end
and the beacon is no longer pending.  The head is tested again: CLAIMED, it completes NO_STATION where its target no longer
passes and TOO_LONG where it no longer fits; waiting for a retry, it completes in both cases with the outcome and the number
of its last attempt; else its claim stays.  The run state, the station table, the mailboxes and the host's registers stay
(R52, R67, R118, R139). -/
def Obligations.ScheduledWindowEnds : Prop :=
  ∀ s : State, s.timer.window = .sched → s.timer.tickCount = 0 →
    ∃ t, exec .schedWindowEnd s = .next t ∧
      t.timer = { s.timer with
        window := .openWin, tickCount := s.timer.inForce.openLen, prescaler := s.timer.inForce.tickdiv } ∧
      t.run = s.run ∧ t.roster = s.roster ∧ t.line.schedClaim = none ∧ t.line.beaconPending = false ∧
      t.line.record = s.line.record ∧ s.retriesEnded t ∧ t.sched.mailboxes = s.sched.mailboxes ∧ t.host = s.host ∧
      (let completed := fun (q : Request) (o : LineOutcome) (attempts : Nat) =>
         t.line.reqClaim = none ∧ t.disc = s.disc ∧ t.req = { s.req with
           queue := [], head := .untaken, completions := s.req.completions ++ [q.completion o attempts {}]
           reservations := s.req.reservations - 1 }
       (s.req.head = .untaken ∨ s.req.head = .onLine → t.req = s.req ∧ t.disc = s.disc) ∧
       (∀ q behind, s.req.queue = q :: behind → s.req.head = .claimed ∨ s.req.head.isRetryWaiting = true →
         q.targetPasses s.roster = true → s.tooLong q = false →
         t.req = s.req ∧ t.disc = s.disc ∧ t.line.reqClaim = s.line.reqClaim) ∧
       (∀ q, s.req.queue = [q] → s.req.head = .claimed → q.targetPasses s.roster = false → completed q .noStation 0) ∧
       (∀ q, s.req.queue = [q] → s.req.head = .claimed → q.targetPasses s.roster = true → s.tooLong q = true →
         completed q .tooLong 0) ∧
       (∀ q o n, s.req.queue = [q] → s.req.head = .retryWaiting o n →
         q.targetPasses s.roster = false ∨ s.tooLong q = true → completed q o n) ∧
       (∀ q behind o n, s.req.queue = q :: behind → s.req.head = .retryWaiting o n →
         q.targetPasses s.roster = false ∨ s.tooLong q = true →
         s.req.completions ++ [q.completion o n {}] <+: t.req.completions ∧ t.req.queue <:+ behind)) ∧
      t.dataBus = s.dataBus ∧ t.freeIndex = s.freeIndex ∧ t.pending = s.pending

/-- The end of a bit time with nothing left to take at the boundary: the bit times left in a window fall by 1, the idle-run
count follows the sample, the transaction in flight is one bit time older, in the first bit time of a slot its sample enters
what was heard, the line check begins or takes its sample, and the unit's phase is CHECK once the identity slots are over.
The Scheduler chooses again where its claim for a new issue exceeds the bit times left, at once or, the order being open,
after the grant decision of this boundary.  The table, the requests, the host's registers stay (R17, R47, R54, R64, R87, R113,
R160).  While an event of the present boundary is still to be taken a BIT_TIME_END does not occur: the model's choice
(log 2). -/
def Obligations.BitTimeEnds : Prop :=
  (∀ (s : State) (mid fin : Level), s.mayTick mid = true → s.timer.Lawful →
    ∃ t, exec (.bitTimeEnd mid fin) s = .next t ∧
      (s.timer.window ≠ .noWindow → t.timer.left + 1 = s.timer.left) ∧
      { t.timer with tickCount := s.timer.tickCount, prescaler := s.timer.prescaler } = s.timer ∧
      t.line.idleRun = (if mid = .recessive then min (s.line.idleRun + 1) 4 else 0) ∧
      (s.line.record = none → t.line.record = none) ∧
      (∀ r, s.line.record = some r → t.line.record = some { r with
        elapsed := r.elapsed + 1, phaseTime := r.phaseTime + 1
        heard := if r.part = .slots ∧ r.phase = .receiving ∧ r.phaseTime % 2 = 0
          then (r.heard <<< 1) ||| (if fin = .dominant then 1 else 0) else r.heard }) ∧
      t.run = { s.run with check := t.run.check } ∧
      (s.run.check = .idle → t.run.check = .idle) ∧ (s.run.check = .armed → t.run.check = .sampling 0) ∧
      (∀ n, s.run.check = .sampling n →
        t.run.check = if mid = .recessive then .sampling (n + 1) else .dominant) ∧
      (∀ r sw rd, s.line.record = some r → r.part = .slots → r.phase = .receiving → r.phaseTime + 1 = 96 →
        s.disc = .inRound sw rd → t.disc = .inRound sw { rd with phase := .check }) ∧
      ((∀ r, s.line.record = some r → ¬ (r.part = .slots ∧ r.phase = .receiving ∧ r.phaseTime + 1 = 96)) →
        t.disc = s.disc) ∧
      (let boundary := { s with timer := t.timer }
       (¬ boundary.claimExceeds → s.sameSchedule t ∧ t.freeIndex = s.freeIndex) ∧
       (boundary.claimExceeds → boundary.Chosen t ∨ (s.sameSchedule t ∧ t.grantDue = true))) ∧
      t.line.boundary = true ∧ t.line.reqClaim = s.line.reqClaim ∧ t.line.roundClaim = s.line.roundClaim ∧
      t.line.beaconPending = s.line.beaconPending ∧ t.line.lastGrant = s.line.lastGrant ∧
      t.line.echoCount = s.line.echoCount ∧ t.line.lineErrors = s.line.lineErrors ∧
      t.roster = s.roster ∧ t.req = s.req ∧ t.host = s.host ∧
      t.sched.mailboxes = s.sched.mailboxes ∧ t.dataBus = s.dataBus ∧ t.pending = s.pending) ∧
  (∀ (s : State) (mid fin : Level),
    s.timer.expired = true ∨ s.lineDue = true ∨ s.timer.bitClock = false ∨ s.run.check.due = true ∨ s.grantDue = true →
    exec (.bitTimeEnd mid fin) s = .next s)

/-- Both timing sets stay valid, a clear flag means that they are equal, the prescaler stays in 1..TICKDIV while ticks are
left; and the Line Sequencer's counts stay in their ranges (R44, R45, R47, R64, R71). -/
def Obligations.TimerAndCountsLaw : Prop :=
  ∀ s t : State, s.timer.Lawful → s.LineCountsLawful → step s = .next t → t.timer.Lawful ∧ t.LineCountsLawful

/-! ## Line Sequencer -/

/-- A transaction begins in RUNNING alone, in a window, at a boundary whose decision is still to be made, and only with a
reservation no greater than the bit times left; and no command but the grant decision begins one (R65, R66). -/
def Obligations.GrantFits : Prop :=
  ∀ (c : Instr) (s t : State) (r : Record), s.line.record = none → exec c s = .next t → t.line.record = some r →
    c = .grantDecision ∧ s.run.state = .running ∧ s.timer.window ≠ .noWindow ∧ s.line.boundary = true ∧
      r.reservation ≤ s.timer.left

/-- In a scheduled window the beacon is granted first; once no beacon is pending a scheduled claim that fits: the entry's due
mark is consumed, and the frame carries the mailbox as it stands.  With the line idle the frame is driven, otherwise the
attempt is LINE_ERROR at once and counts as an echo error.  A claim that does not fit is not granted, and where it is for a
new issue the Scheduler then chooses again, its new claim waiting for the next boundary.  Each frame has the fields of section
12.6 (R6, R7, R8, R10, R64, R65, R67, R68, R71, R113, R115, R129). -/
def Obligations.ScheduledWindowGrants : Prop :=
  ∀ s : State, s.run.state = .running → s.line.record = none → s.line.boundary = true → s.timer.window = .sched →
    s.timer.expired = false →
    let decided := { s with line := { s.line with boundary := false } }
    let chosenAfter := fun (u t : State) =>
      (¬ s.claimExceeds → t = u) ∧ (s.claimExceeds → u.Chosen t ∧ u.butSchedule t)
    (s.line.beaconPending = true → 84 ≤ s.timer.left → s.line.idleRun = 4 ∨ s.line.echoCount < 7 →
      ∃ t f, exec .grantDecision s = .next t ∧
        f.laidOut 0xFF 0 [s.timer.cycle.extractLsb' 8 8, s.timer.cycle.extractLsb' 0 8] ∧
        chosenAfter { decided with line := { decided.line with beaconPending := false }.checked {
          owner := .beacon, exchange := none, dest := 0, frame := f, lr := 0, source := none, compare := none
          reservation := 84, attempt := 1, phase := .sending, outcome := none, reply := {}, part := .single
          after := .finish, heard := 0, elapsed := 0, phaseTime := 0, offGrid := false } } t) ∧
    (∀ c n, s.line.beaconPending = false → s.line.schedClaim = some c → c.owner = .scheduler n →
      124 + 10 * (c.lc + c.lr) + s.rw ≤ s.timer.left → s.line.idleRun = 4 ∨ s.line.echoCount < 7 →
      ∃ f, c.sendsFrame (s.mailbox n).data f ∧ exec .grantDecision s = .next ({ decided with
        line := { decided.line with schedClaim := none }.checked (c.attemptRecord s.rw f) }.setEntry n
          { s.entry n with status := .inFlight, attempt := c.attempt })) ∧
    (∀ c, s.line.beaconPending = false → s.line.schedClaim = some c →
      s.timer.left < 124 + 10 * (c.lc + c.lr) + s.rw →
      ∃ t, exec .grantDecision s = .next t ∧ chosenAfter decided t ∧ t.line.record = none ∧ t.line.boundary = false) ∧
    (s.line.beaconPending = false → s.line.schedClaim = none → exec .grantDecision s = .next decided)

/-- The open-window arbiter: with one claim ready that one is granted, with both the one that the last-grant memory does not
name, with none nothing; the memory takes the owner granted.  The frame, with the fields of section 12.6, is driven where the
line is idle; otherwise the attempt or the round is LINE_ERROR at once and counts as an echo error (R64, R68, R69, R71, R77,
R87, R140). -/
def Obligations.ArbiterAlternates : Prop :=
  ∀ s : State, s.run.state = .running → s.line.record = none → s.line.boundary = true → s.timer.window = .openWin →
    s.timer.expired = false →
    let reqReady := ∃ c, s.line.reqClaim = some c ∧ 124 + 10 * (c.lc + c.lr) + s.rw ≤ s.timer.left
    let roundReady := s.line.roundClaim = true ∧ 388 + s.rw ≤ s.timer.left
    (∀ c, s.line.reqClaim = some c → reqReady → (roundReady → s.line.lastGrant = .discovery) →
      s.line.idleRun = 4 ∨ s.line.echoCount < 7 →
      ∃ f, c.sendsFrame (match s.req.queue with | q :: _ => q.payload | [] => []) f ∧
        exec .grantDecision s = .next { s with
          line := { s.line with boundary := false, reqClaim := none, lastGrant := .request }.checked
            (c.attemptRecord s.rw f)
          req := { s.req with head := .onLine } }) ∧
    (∀ sw, s.disc = .sweeping sw → roundReady → (reqReady → s.line.lastGrant = .request) →
      s.line.idleRun = 4 ∨ s.line.echoCount < 7 →
      ∃ f, f.laidOut 0xC0 1 [] ∧ exec .grantDecision s = .next { s with
        line := { s.line with boundary := false, roundClaim := false, lastGrant := .discovery }.checked {
          owner := .discovery, exchange := none, dest := 0, frame := f, lr := 0, source := none, compare := none
          reservation := 388 + s.rw, attempt := 1, phase := .sending, outcome := none, reply := {}, part := .contend
          after := .slots, heard := 0, elapsed := 0, phaseTime := 0, offGrid := false }
        disc := .inRound { sw with rounds := min (sw.rounds + 1) 65535 } {} }) ∧
    (¬ reqReady → ¬ roundReady → exec .grantDecision s = .next (s.setBoundary false))

/-- An echo mismatch: the transaction is LINE_ERROR in its closing gap, and both echo counts rise; the eighth in a row in
RUNNING or DRAINING enters FAULTED with the window NONE, and the record stays for its gap.  On a RESTART, ASSIGN or RELEASE
frame of a round the unit counts a noisy round, and a JOINING entry reverts, whether the fault is raised or not; a round sets
fault seen, a sweep that waits ends LINE_ERROR, a CLAIMED head becomes UNTAKEN and waiting retries end.  A failed idle check at a grant is an echo error of the same kind
(R64, R70, R71, R72, R78, R101, R102, R120, R147, R158).  That the count of consecutive noisy rounds stops at 7 is the model's choice
(log 9). -/
def Obligations.EchoMismatchFails : Prop :=
  (∀ (s : State) (r : Record) (lrx : Level), s.line.record = some r → r.phase = .sending →
    r.phaseTime < r.frame.bits → r.frame.level r.phaseTime ≠ lrx →
    let failed := { r with phase := .closing, outcome := some .lineError, phaseTime := 0, offGrid := true, after := .finish }
    let line := { s.line with
      record := some failed, echoCount := s.line.echoCount + 1, lineErrors := min (s.line.lineErrors + 1) 65535 }
    let noisier := fun (sw : Sweep) =>
      { sw with consecutiveNoisy := min (sw.consecutiveNoisy + 1) 7, totalNoisy := min (sw.totalNoisy + 1) 255 }
    let faulted := fun (t : State) =>
      t.run = { s.run with state := .faulted } ∧ t.faultFlag = true ∧
        s.timer.Closed t.timer ∧ t.line.record = some failed ∧ t.line.echoCount = 8 ∧
        t.line.lineErrors = min (s.line.lineErrors + 1) 65535 ∧ t.line.beaconPending = false ∧
        t.line.schedClaim = none ∧ (∀ n, (t.entry n).status ≠ .due ∧ (t.entry n).status ≠ .held) ∧
        (∀ n, s.entryOnLine n = false → t.entry n = (s.entry n).returned) ∧
        s.HeadLeft t (s.disc.ending .lineError) ∧ s.sweepLeft t ∧
        t.sched.mailboxes = s.sched.mailboxes ∧ t.host = s.host ∧
        t.dataBus = s.dataBus ∧ t.pending = s.pending
    (r.owner ≠ .discovery ∨ r.part = .contend → s.line.echoCount < 7 →
      exec (.echoMismatch lrx) s = .next { s with line := line }) ∧
    (∀ sw rd, r.owner = .discovery → r.part ≠ .contend → s.line.echoCount < 7 → s.disc = .inRound sw rd →
      exec (.echoMismatch lrx) s = .next { s with
        line := line
        roster := if rd.phase = .assignWait then s.roster.revert rd.address else s.roster
        disc := .inRound (noisier sw) { rd with phase := .closing } }) ∧
    (r.owner ≠ .discovery ∨ r.part = .contend → s.line.echoCount = 7 →
      s.run.state = .running ∨ s.run.state = .draining →
      ∃ t, exec (.echoMismatch lrx) s = .next t ∧ faulted t ∧ t.roster = s.roster ∧
        (∀ sw rd, s.disc = .inRound sw rd → t.disc = .inRound { sw with faultSeen := true } rd) ∧
        (∀ sw, s.disc = .sweeping sw → t.disc = .idle ∧ sw.record .lineError ∈ t.req.completions)) ∧
    (∀ sw rd, r.owner = .discovery → r.part ≠ .contend → s.line.echoCount = 7 → s.disc = .inRound sw rd →
      s.run.state = .running ∨ s.run.state = .draining →
      ∃ t, exec (.echoMismatch lrx) s = .next t ∧ faulted t ∧
        t.roster = (if rd.phase = .assignWait then s.roster.revert rd.address else s.roster) ∧
        t.disc = .inRound { noisier sw with faultSeen := true } { rd with phase := .closing })) ∧
  (∀ (s t : State) (r : Record), s.line.record = none → exec .grantDecision s = .next t → t.line.record = some r →
    s.line.idleRun ≠ 4 →
    r.phase = .closing ∧ r.outcome = some .lineError ∧ t.line.lineErrors = min (s.line.lineErrors + 1) 65535 ∧
      (s.line.echoCount < 7 → t.run = s.run ∧ t.line.echoCount = s.line.echoCount + 1) ∧
      (s.line.echoCount = 7 → t.run = { s.run with state := .faulted } ∧ s.timer.Closed t.timer ∧ t.line.echoCount = 8))

/-- A frame sent clean zeroes the consecutive echo count.  The POLL, WRITE and RELEASE of a claim and the ASSIGN of a round open
the response wait; the beacon, which has no exchange, and a round's CONTEND, RESTART and RELEASE go to the closing gap.  A
leading edge within the wait begins reception, and later it does not (R12, R63, R71).  An event that cannot occur changes
nothing: the model's choice (log 1). -/
def Obligations.SendingAndWaitingEnd : Prop :=
  (∀ (s : State) (r : Record), s.line.record = some r → r.phase = .sending → r.frame.bits ≤ r.phaseTime →
    exec .frameSentClean s = .next { s with line := { s.line with
      echoCount := 0
      record := some (
        if r.part = .assign ∨
            (r.part = .single ∧ (r.exchange = some .poll ∨ r.exchange = some .write ∨ r.exchange = some .release)) then
          { r with phase := .waiting, phaseTime := 0 }
        else { r with
          phase := .closing, phaseTime := 0, offGrid := false
          outcome := if r.owner = .discovery then none else some .ok }) } }) ∧
  (∀ (s : State) (r : Record), s.line.record = some r → r.phase = .sending → r.phaseTime < r.frame.bits →
    exec .frameSentClean s = .next s) ∧
  (∀ (s : State) (r : Record) (onGrid : Bool), s.line.record = some r → r.phase = .waiting →
    r.phaseTime < s.rw ∨ (r.phaseTime = s.rw ∧ onGrid = true) →
    exec (.replyLeadingEdge onGrid) s = .next { s with line := { s.line with
      record := some { r with phase := .receiving, phaseTime := 0, offGrid := !onGrid } } }) ∧
  (∀ (s : State) (r : Record) (onGrid : Bool), s.line.record = some r → r.phase = .waiting →
    s.rw < r.phaseTime ∨ (r.phaseTime = s.rw ∧ onGrid = false) → exec (.replyLeadingEdge onGrid) s = .next s)

/-- The attempt of a schedule entry or a request is classified when the response wait expires, when its reply ends as declared,
10 bt a byte from its leading edge, or when it is cut off at the reply deadline, the frame's bits + RESP_WAIT + 10(6 + Lr) after
the frame's first bit; the closing gap begins and nothing else changes (R12, R13, R63, R73).  The model's choices: the deadline of
a WRITE entry whose mailbox holds fewer than L bytes follows the frame built (log 28), a reply's own bit clock may drift half a
bit time a byte (log 17), and an event that cannot occur changes nothing (log 1). -/
def Obligations.AttemptClassified : Prop :=
  ∀ (s : State) (r : Record) (o : ClaimOwner), s.line.record = some r → r.owner = .claim o →
    let deadline := r.frame.bits + s.rw + 10 * (6 + r.lr)
    let closed := fun (out : LineOutcome) (reply : Reply) (offGrid : Bool) =>
      { s with line := { s.line with record := some { r with
        phase := .closing, outcome := some out, phaseTime := 0, offGrid, reply, after := .finish } } }
    (r.phase = .waiting → s.rw ≤ r.phaseTime → exec .responseWaitExpiry s = .next (closed .timeout {} false)) ∧
    (r.phase = .waiting → r.phaseTime < s.rw → exec .responseWaitExpiry s = .next s) ∧
    (r.phase = .receiving → r.part ≠ .slots → deadline ≤ r.elapsed →
      exec .replyDeadline s = .next (closed .checkError {} false)) ∧
    (r.phase = .receiving → r.part ≠ .slots → r.elapsed < deadline → exec .replyDeadline s = .next s) ∧
    (∀ bytes onGrid, r.phase = .receiving → r.part ≠ .slots →
      let n := bytes.length
      let inTime := r.elapsed < deadline ∨ (r.elapsed = deadline ∧ onGrid = true)
      let onItsGrid := 20 * n ≤ 2 * r.phaseTime + (n - 1) + (if onGrid then 0 else 1) ∧
        2 * r.phaseTime ≤ 20 * n + (n - 1) + (if r.offGrid then 1 else 0)
      (n = 6 + rxLength bytes → onItsGrid → inTime → exec (.replyReceptionEnd bytes onGrid) s =
        .next (closed (judgeReply r bytes).1 (judgeReply r bytes).2 (!onGrid))) ∧
      (¬ (n = 6 + rxLength bytes ∧ onItsGrid ∧ inTime) → exec (.replyReceptionEnd bytes onGrid) s = .next s))

/-- The five checks in order: framing, cut and check; source; OBJECT; LENGTH; then the status, and for a PROBE the identity.
And a reply built and sampled as the manual lays it out passes them: with the expected source, the OBJECT returned and a
payload within the limit it is accepted with its status, length and, for OK, payload (R4, R10, R11, R73, R74).  The check of
the nine bytes that R10 gives is 0x29B1. -/
def Obligations.ReplyJudged : Prop :=
  crc [0x31, 0x32, 0x33, 0x34, 0x35, 0x36, 0x37, 0x38, 0x39] = 0x29B1 ∧
  (∀ (r : Record) (bytes : List RxByte),
    let o := (judgeReply r bytes).1
    let sound := rxFramed bytes = true ∧ rxCheckPasses bytes = true
    (¬ sound → o = .checkError) ∧
    (sound → some (rxSource bytes) ≠ r.source → o = .addressMismatch) ∧
    (sound → some (rxSource bytes) = r.source → rxObject bytes ≠ r.frame.object → o = .checkError) ∧
    (sound → some (rxSource bytes) = r.source → rxObject bytes = r.frame.object → r.lr < rxLength bytes →
      o = .lengthError) ∧
    (sound → some (rxSource bytes) = r.source → rxObject bytes = r.frame.object → rxLength bytes ≤ r.lr →
      (rxStatus bytes ≠ .ok → o = .nak) ∧
      (rxStatus bytes = .ok → r.compare = none → o = .ok) ∧
      (∀ i, rxStatus bytes = .ok → r.compare = some i →
        (rxPayload bytes = identBytes i → o = .ok) ∧ (rxPayload bytes ≠ identBytes i → o = .identityMismatch)))) ∧
  (∀ (r : Record) (status : ReplyStatus) (source : Nat) (payload : List Byte),
    source < 64 → r.source = some source → payload.length ≤ r.lr → payload.length ≤ 32 → r.compare = none →
    let sent := (buildFrame (headerByte status.code source) r.frame.object payload).bytes
    let sampled := sent.map fun b => (1#1 ++ b ++ 0#1 : RxByte)
    rxComplete sampled = true ∧
    judgeReply r sampled =
      if status = .ok then (.ok, { status, length := payload.length, payload })
      else (.nak, { status, length := payload.length }))

/-- A reservation covers the worst case: frame, response wait, longest reply and closing gap for a claim whose payload is no
longer than it says; the beacon; and the parts of a round (R15, R18).  That the deadline of a shorter WRITE follows the frame
built is the model's choice (log 28). -/
def Obligations.ReservationsCover : Prop :=
  (∀ (c : Claim) (payload : List Byte) (rw : Nat),
    (c.exchange = .write → payload.length ≤ c.lc) → (c.exchange = .release → 1 ≤ c.lc) →
    (c.record payload rw).deadline rw + closingGap ≤ (c.record payload rw).reservation) ∧
  (∀ cycle : Word, (beaconRecord cycle).frame.bits + closingGap = (beaconRecord cycle).reservation) ∧
  (∀ (i : Ident) (a rw : Nat),
    contendFrame.bits + closingGap + slotBits + closingGap + (assignFrame i a).bits + rw + closingGap
      + (releaseFrame a 1).bits + closingGap = (roundRecord rw).reservation)

/-! ## A contention round -/

/-- The decision on what the slots held, by the first line that applies: noisy, where the check is not the sum of the six bytes
of the identity, empty, valid with an address, valid with the table full (R16, R88, R89, R90).  That the count of consecutive noisy rounds stops at 7 is the model's choice (log 9). -/
def Obligations.SlotDecision : Prop :=
  ∀ (s : State) (r : Record) (sw : Sweep) (rd : Round), s.line.record = some r → r.phase = .receiving → r.part = .slots →
    slotBits ≤ r.phaseTime → s.disc = .inRound sw rd →
    let i := r.heardIdentity
    let check : Byte := i.extractLsb' 40 8 + i.extractLsb' 32 8 + i.extractLsb' 24 8 + i.extractLsb' 16 8
      + i.extractLsb' 8 8 + i.extractLsb' 0 8
    let gap := fun (after : AfterGap) =>
      { s.line with record := some { r with phase := .closing, outcome := none, phaseTime := 0, offGrid := false, after } }
    (r.heardCheck ≠ check →
      exec .checkSlotsEnd s = .next { s with
        line := gap .restart
        disc := .inRound
          { sw with consecutiveNoisy := min (sw.consecutiveNoisy + 1) 7, totalNoisy := min (sw.totalNoisy + 1) 255 }
          { rd with phase := .closing, verdict := some .noisy } }) ∧
    (r.heardCheck = check → i = 0 →
      exec .checkSlotsEnd s = .next { s with
        line := gap .finish, disc := .inRound sw { rd with phase := .decide, verdict := some .empty } }) ∧
    (∀ a, r.heardCheck = check → i ≠ 0 → (s.roster.admission i).1 = some a →
      exec .checkSlotsEnd s = .next { s with
        line := gap (.assign i a), roster := (s.roster.admission i).2
        disc := .inRound { sw with consecutiveNoisy := 0 }
          { rd with phase := .assignWait, address := a, verdict := some .valid } }) ∧
    (r.heardCheck = check → i ≠ 0 → (s.roster.admission i).1 = none →
      exec .checkSlotsEnd s = .next { s with
        line := gap .restart
        disc := .inRound { sw with consecutiveNoisy := 0 }
          { rd with phase := .closing, verdict := some .valid, tableFull := true } })

/-- Admission: the address of the entry that holds the identity, else the lowest FREE address, else TABLE_FULL; the entry
becomes JOINING with its prior state recorded and its address listed (R32, R91). -/
def Obligations.AdmissionTable : Prop :=
  ∀ (r : Roster) (i : Ident), r.Lawful → i ≠ 0 →
    (∀ a, stationAddress a = true → (r.entry a).state ≠ .free → (r.entry a).identity = i →
      (r.admission i).1 = some a ∧
      r.Becomes (r.admission i).2 a { r.entry a with state := .joining, prior := (r.entry a).state } (r.listed a)) ∧
    ((∀ b, (r.entry b).state ≠ .free → (r.entry b).identity ≠ i) →
      (∀ a, stationAddress a = true → (r.entry a).state = .free →
        (∀ b, stationAddress b = true → b < a → (r.entry b).state ≠ .free) →
        (r.admission i).1 = some a ∧
        r.Becomes (r.admission i).2 a { r.entry a with state := .joining, prior := .free, identity := i } (r.listed a)) ∧
      ((∀ a, stationAddress a = true → (r.entry a).state ≠ .free) → r.admission i = (none, r)))

/-- A reply to the ASSIGN settles the JOINING entry, clean after OK or NAK and with conflict otherwise, a reply cut off at its
deadline among those; and the sweep counts it by the prior state: FREE and RESERVED in new, the others in rejoined, both
saturating at 255 (R33, R92, R93). -/
def Obligations.AssignReplySettles : Prop :=
  ∀ (s : State) (r : Record) (sw : Sweep) (rd : Round) (c : Instr) (o : LineOutcome) (reply : Reply) (offGrid : Bool),
    s.line.record = some r → r.owner = .discovery → r.phase = .receiving → r.part = .assign →
    (∃ bytes onGrid, c = .replyReceptionEnd bytes onGrid ∧ r.replyEnds s.rw bytes onGrid = true ∧
        (o, reply) = judgeReply r bytes ∧ offGrid = !onGrid) ∨
      (c = .replyDeadline ∧ r.frame.bits + s.rw + 10 * (6 + r.lr) ≤ r.elapsed ∧ o = .checkError ∧ reply = {} ∧ offGrid = false) →
    s.disc = .inRound sw rd → (s.roster.entry rd.address).state = .joining →
    let e := s.roster.entry rd.address
    let clean := o = .ok ∨ o = .nak
    let isNew := e.prior = .free ∨ e.prior = .reserved
    ∃ t e', exec c s = .next t ∧
      t = { s with line := t.line, disc := t.disc, roster := t.roster } ∧
      t.line = { s.line with record := some { r with
        phase := .closing, outcome := some o, phaseTime := 0, offGrid, reply, after := .finish } } ∧
      s.roster.Becomes t.roster rd.address e' (s.roster.listed rd.address) ∧
      e'.state = .active ∧ e'.failures = 0 ∧ e'.identity = e.identity ∧ e'.pinned = e.pinned ∧
      (isNew → e'.errorTotal = 0 ∧ e'.rejoins = 0) ∧
      (¬ isNew → e'.errorTotal = e.errorTotal ∧ e'.rejoins = min (e.rejoins + 1) 255) ∧
      (clean → e'.replied = true ∧ e'.lastReply = s.timer.cycle ∧ e'.conflict = e.conflict) ∧
      (¬ clean → e'.replied = e.replied ∧ e'.lastReply = e.lastReply ∧ e'.conflict = true) ∧
      (isNew → t.disc = .inRound { sw with newStations := min (sw.newStations + 1) 255 } { rd with phase := .closing }) ∧
      (¬ isNew → t.disc = .inRound { sw with rejoined := min (sw.rejoined + 1) 255 } { rd with phase := .closing })

/-- No reply to the ASSIGN reverts the JOINING entry to its prior state, FREE with every field 0, and a RELEASE with mode 1 to
the address follows the gap (R34, R92, R94). -/
def Obligations.AssignTimeoutReverts : Prop :=
  ∀ (s : State) (r : Record) (sw : Sweep) (rd : Round),
    s.line.record = some r → r.owner = .discovery → r.phase = .waiting → r.source = some rd.address → s.rw ≤ r.phaseTime →
    s.disc = .inRound sw rd → (s.roster.entry rd.address).state = .joining →
    let e := s.roster.entry rd.address
    ∃ t, exec .responseWaitExpiry s = .next t ∧
      t = { s with line := t.line, disc := t.disc, roster := t.roster } ∧
      t.line = { s.line with record := some { r with
        phase := .closing, outcome := some .timeout, phaseTime := 0, offGrid := false, reply := {}
        after := .release rd.address } } ∧
      s.roster.Becomes t.roster rd.address (if e.prior = .free then {} else { e with state := e.prior })
        (s.roster.listed rd.address) ∧
      t.disc = .inRound sw { rd with phase := .closing }

/-- The end of a gap inside a round begins the round's next part at that boundary: the slots, or the RESTART, ASSIGN or
RELEASE frame, each with the fields of section 12.6.  The frame is driven where the line is idle; otherwise the round is
LINE_ERROR at once, an echo error counts, the unit counts a noisy round and a JOINING entry reverts
(R18, R64, R71, R77, R78, R101).  That the count of consecutive noisy rounds stops at 7 is the model's choice (log 9). -/
def Obligations.RoundPartsFollow : Prop :=
  ∀ (s : State) (r : Record) (sw : Sweep) (rd : Round), s.line.record = some r → r.owner = .discovery →
    r.phase = .closing → closingGap ≤ r.phaseTime → r.offGrid = false → s.disc = .inRound sw rd →
    let sent := fun (r : Record) =>
      if s.line.idleRun = 4 then { s with line := s.line.checked r }
      else { s with
        line := s.line.checked r
        roster := if rd.phase = .assignWait then s.roster.revert rd.address else s.roster
        disc := .inRound
          { sw with consecutiveNoisy := min (sw.consecutiveNoisy + 1) 7, totalNoisy := min (sw.totalNoisy + 1) 255 }
          { rd with phase := .closing } }
    (r.after = .slots → exec .closingGapEnd s = .next { s with
      line := { s.line with record := some { r with phase := .receiving, part := .slots, phaseTime := 0 } }
      disc := .inRound sw { rd with phase := .slots } }) ∧
    (s.line.idleRun = 4 ∨ s.line.echoCount < 7 →
      (r.after = .restart → ∃ f : Frame, f.laidOut 0xC0 2 [] ∧
        exec .closingGapEnd s = .next (sent { r with frame := f, part := .restart, after := .finish })) ∧
      (∀ (i : Ident) (a : Nat), r.after = .assign i a → ∃ f : Frame,
        f.laidOut 0x80 0 [i.extractLsb' 40 8, i.extractLsb' 32 8, i.extractLsb' 24 8, i.extractLsb' 16 8,
          i.extractLsb' 8 8, i.extractLsb' 0 8, BitVec.ofNat 8 a] ∧
        exec .closingGapEnd s = .next (sent { r with
          frame := f, part := .assign, after := .finish, lr := 0, source := some a })) ∧
      (∀ a : Nat, r.after = .release a → ∃ f : Frame,
        f.laidOut (3#2 ++ BitVec.ofNat 6 a : BitVec (2 + 6)) 3 [1] ∧
        exec .closingGapEnd s = .next (sent { r with frame := f, part := .release, after := .finish })))

/-- The end of a round: the course of the sweep by the first line of R95 that applies, a CONTEND frame that drew an echo error
counting one more noisy round first; a sweep that ends leaves one completion with its counts, its reservation given back and
the unit IDLE, and a sweep that goes on claims the next round; whether a grant decision of this boundary that would grant that
claim sees it is open (log 29).  In DRAINING a sweep with no earlier line ends STOPPED, and the
run state becomes OFF with DRAINED set (R77, R85, R95, R96, R101, R156).  That the count of consecutive noisy rounds stops at
7 is the model's choice (log 9). -/
def Obligations.RoundEndCourse : Prop :=
  ∀ (s : State) (r : Record) (sw : Sweep) (rd : Round), s.line.record = some r → r.owner = .discovery →
    r.phase = .closing → closingGap ≤ r.phaseTime → r.after = .finish → s.disc = .inRound sw rd →
    let failed := r.part = .contend
    let sw' := if failed then
      { sw with consecutiveNoisy := min (sw.consecutiveNoisy + 1) 7, totalNoisy := min (sw.totalNoisy + 1) 255 } else sw
    let roster := if failed ∧ rd.phase = .assignWait then s.roster.revert rd.address else s.roster
    let boundary := if r.offGrid then false else s.line.boundary
    let written := fun (o : LineOutcome) => { s.req with
      completions := s.req.completions ++ [{
        tag := sw'.tag, kind := .discover, address := 0, outcome := o, attempts := 0, status := .ok, length := 0
        payload := [], newStations := sw'.newStations, rejoined := sw'.rejoined, rounds := sw'.rounds
        totalNoisy := sw'.totalNoisy }]
      reservations := s.req.reservations - 1 }
    let ended := fun (o : LineOutcome) => { s with
      line := { s.line with record := none, roundClaim := false, boundary }
      roster, disc := .idle, req := written o }
    let course : Option LineOutcome :=
      if sw.faultSeen then some .lineError
      else if rd.aborted then some .aborted
      else if rd.verdict = some .empty then some .ok
      else if rd.tableFull then some .tableFull
      else if s.roster.discRetries ≤ sw'.consecutiveNoisy then some .noisy
      else if sw.cancelRequested then some .cancelled
      else if s.timer.inForce.openBits < 388 + s.rw then some .windowTooShort
      else none
    (∀ o, s.run.state ≠ .draining → course = some o → exec .closingGapEnd s = .next (ended o)) ∧
    (s.run.state ≠ .draining → course = none →
      ∃ seen n, exec .closingGapEnd s = .next { s with
        line := { s.line with record := none, roundClaim := true, boundary := boundary && seen }
        roster, disc := .sweeping sw', freeIndex := n } ∧
      (s.run.state ≠ .running ∨ s.timer.window ≠ .openWin ∨ s.timer.left < 388 + s.rw → seen = true)) ∧
    (s.run.state = .draining → ∃ t o, exec .closingGapEnd s = .next t ∧
      o = (if sw.faultSeen then .lineError
        else if rd.aborted then .aborted
        else if rd.verdict = some .empty then .ok
        else if rd.tableFull then .tableFull
        else if s.roster.discRetries ≤ sw'.consecutiveNoisy then .noisy
        else if sw.cancelRequested then .cancelled
        else LineOutcome.stopped) ∧
      t.disc = .idle ∧ t.roster = roster ∧ (s.req.head = .untaken → t.req = written o) ∧
      t.run = { s.run with state := .off, check := .idle } ∧ s.timer.Closed t.timer ∧ t.line.record = none ∧
      t.line.roundClaim = false ∧ t.host = { s.host with sticky := { s.host.sticky with drained := true } } ∧
      t.sched.mailboxes = s.sched.mailboxes ∧ t.dataBus = s.dataBus ∧ t.freeIndex = s.freeIndex ∧ t.pending = s.pending)

/-- A round keeps one station: of the stations that contend, each with its identity and check value, the controller hears the
greatest identity, with the check value that belongs to it (R16, R17, R19).  What it hears is gathered by BIT_TIME_END: the
sample at the end of a slot's first bit time joins the samples before it, and the identity and the check are the first 48 and
the last 8 of them.  The stations and their side of the slots are the model's own, apart from the block (log 16). -/
def Obligations.RoundHearsGreatest : Prop :=
  (∀ (ids : List Ident) (top : Ident), top ∈ ids → (∀ i ∈ ids, i ≤ top) →
    let stations := ids.map fun i => { ident := i, state := .contending : Station }
    let check : Byte := top.extractLsb' 40 8 + top.extractLsb' 32 8 + top.extractLsb' 24 8 + top.extractLsb' 16 8
      + top.extractLsb' 8 8 + top.extractLsb' 0 8
    heardBits (runSlots roundSlots stations).1 = (top ++ check : BitVec (48 + 8)) ∧
    (∀ st ∈ (runSlots roundSlots stations).2, st.state = .contending ↔ st.ident = top)) ∧
  (∀ (s : State) (r : Record) (bits : List Bool) (mid fin : Level), s.mayTick mid = true → s.line.record = some r →
    r.part = .slots → r.phase = .receiving → r.heard = heardBits bits →
    ∃ t r', exec (.bitTimeEnd mid fin) s = .next t ∧ t.line.record = some r' ∧
      (r.phaseTime % 2 = 0 → r'.heard = heardBits (bits ++ [fin == .dominant])) ∧
      (r.phaseTime % 2 = 1 → r'.heard = heardBits bits)) ∧
  (∀ (r : Record) (i : Ident) (k : Byte), r.heard = (i ++ k : BitVec (48 + 8)) → r.heardIdentity = i ∧ r.heardCheck = k)

/-! ## The end of a transaction -/

/-- The end of the closing gap outside DRAINING, for an attempt of a schedule entry that ends its issue, by its outcome or
because a condition of the retry fails: the outcome goes to the Roster and then to the entry, whose issue ends, counted in
failed for TIMEOUT, CHECK_ERROR, LENGTH_ERROR, ADDRESS_MISMATCH and LINE_ERROR; its mailbox is filled or acknowledged; and the
Scheduler chooses again in RUNNING and SCHED (R76, R113, R116, R117, R123, R130).  That the reply status kept with an outcome
other than NAK is OK is the model's choice (log 24). -/
def Obligations.ScheduledOutcomeEndsIssue : Prop :=
  ∀ (s : State) (r : Record) (n : Nat) (o : LineOutcome), s.line.record = some r → r.owner = .claim (.scheduler n) →
    r.phase = .closing → closingGap ≤ r.phaseTime → r.outcome = some o → r.exchange ≠ some .release →
    s.run.state ≠ .draining → n < 32 → (s.entry n).status = .inFlight →
    let e := s.entry n
    let m := s.mailbox n
    let roster := s.roster.deliver false o r.dest s.timer.cycle
    let retryable := o = .timeout ∨ o = .checkError ∨ o = .lengthError
    (retryable → ¬ (e.attempt < 1 + e.retries.toNat ∧ e.disablePending = false ∧ s.run.state = .running ∧
      s.timer.window = .sched ∧ roster.issuable e.target.toNat = true ∧
      124 + 10 * e.length.toNat + s.rw ≤ s.timer.left)) →
    ∃ t ended : State, exec .closingGapEnd s = .next t ∧
      t.run = s.run ∧ t.timer = s.timer ∧ t.line.record = none ∧ t.disc = s.disc ∧ t.req = s.req ∧ t.roster = roster ∧
      t.entry n = { e with
        status := if e.disablePending then .disabled else .waiting
        attempt := 0, disablePending := false, lastOutcome := o, lastCycle := s.timer.cycle
        lastStatus := if o = .nak then r.reply.status else .ok
        failed := if retryable ∨ o = .addressMismatch ∨ o = .lineError then min (e.failed + 1) 255 else e.failed } ∧
      (ended.entry n = t.entry n ∧ (∀ k, k ≠ n → ended.entry k = s.entry k) ∧ ended.roster = roster ∧
        ended.timer = s.timer ∧ ended.sched.mailboxes = t.sched.mailboxes ∧
        (s.run.state = .running → s.timer.window = .sched → ended.Chosen t) ∧
        (¬ (s.run.state = .running ∧ s.timer.window = .sched) →
          (∀ k, t.entry k = ended.entry k) ∧ t.line.schedClaim = s.line.schedClaim)) ∧
      (∀ k, k ≠ n → t.mailbox k = s.mailbox k) ∧
      (e.isWrite = true → t.mailbox n = { m with
        fresh := if o = .ok then m.fresh && m.replaced else m.fresh, replaced := false } ∧ t.host = s.host) ∧
      (e.isWrite = false → o ≠ .ok → t.mailbox n = m ∧ t.host = s.host) ∧
      (e.isWrite = false → o = .ok → m.full = false → t.host.sticky.mbx = true ∧
        t.mailbox n = { m with data := r.reply.payload, fillCycle := s.timer.cycle, full := true }) ∧
      (e.isWrite = false → o = .ok → m.full = true → e.policy = 0 → t.host = s.host ∧
        t.mailbox n = { m with overrun := min (m.overrun + 1) 255 }) ∧
      (e.isWrite = false → o = .ok → m.full = true → e.policy ≠ 0 → t.host.sticky.mbx = true ∧
        t.mailbox n = { m with
          data := r.reply.payload, fillCycle := s.timer.cycle, overrun := min (m.overrun + 1) 255 })

/-- A retryable outcome of a schedule entry claims a retry when the five conditions hold after the Roster has taken it: the
entry stays IN_FLIGHT and the claim carries the next attempt number (R76, R117). -/
def Obligations.ScheduledRetry : Prop :=
  ∀ (s : State) (r : Record) (n : Nat) (o : LineOutcome), s.line.record = some r → r.owner = .claim (.scheduler n) →
    r.phase = .closing → closingGap ≤ r.phaseTime → r.outcome = some o → r.exchange ≠ some .release → n < 32 →
    o = .timeout ∨ o = .checkError ∨ o = .lengthError →
    (s.entry n).status = .inFlight → (s.entry n).attempt < 1 + (s.entry n).retries.toNat →
    (s.entry n).disablePending = false → s.run.state = .running → s.timer.window = .sched →
    (s.roster.deliver false o r.dest s.timer.cycle).issuable (s.entry n).target.toNat = true →
    (s.entry n).reservation s.rw ≤ s.timer.left →
    ∃ t, exec .closingGapEnd s = .next t ∧ t.line.record = none ∧ (t.entry n).status = .inFlight ∧
      t.line.schedClaim = some {
        owner := .scheduler n
        exchange := if (s.entry n).direction = 0 then .poll else .write
        dest := (s.entry n).target.toNat
        object := (s.entry n).object
        lc := if (s.entry n).direction = 0 then 0 else (s.entry n).length.toNat
        lr := if (s.entry n).direction = 0 then (s.entry n).length.toNat else 0
        attempt := (s.entry n).attempt + 1
        compare := none } ∧
      t.roster = s.roster.deliver false o r.dest s.timer.cycle ∧ t.run = s.run ∧ t.timer = s.timer ∧ t.req = s.req ∧
      t.host = s.host

/-- The outcome of a request's attempt.  A retryable one claims a retry in RUNNING where the attempts and the target allow it:
the claim of the kind with the attempt number one higher, a PROBE with its identity afresh, the head keeping its place and its
reservation.  Any other completes the head: one record with the fields of R142, its reservation turned into it, and the queue
one shorter (R76, R138, R140, R141, R142, R144).  That a DISCOVER which completes with no sweep of its own holds 0 in its sweep
counts is the model's choice (log 30). -/
def Obligations.RequestOutcomeCompletes : Prop :=
  (∀ (s : State) (r : Record) (tag : Nat) (o : LineOutcome) (q : Request) (behind : List Request),
    s.line.record = some r → r.owner = .claim (.request tag) → r.phase = .closing → closingGap ≤ r.phaseTime →
    r.outcome = some o → s.req.queue = q :: behind → s.run.state ≠ .draining →
    let roster := s.roster.deliver (r.exchange == some .release) o r.dest s.timer.cycle
    let retried := (o = .timeout ∨ o = .checkError ∨ o = .lengthError) ∧ r.attempt < 1 + q.retries ∧
      s.run.state = .running ∧ q.targetPasses roster = true
    ∃ t, exec .closingGapEnd s = .next t ∧
      t.line.record = none ∧ t.run = s.run ∧ t.timer = s.timer ∧ t.sched = s.sched ∧ t.host = s.host ∧
      t.roster = roster ∧
      (retried → t.line.reqClaim = some (q.claim (r.attempt + 1) roster) ∧ t.disc = s.disc ∧
        t.req = { s.req with head := .retryWaiting o r.attempt }) ∧
      (¬ retried →
        s.req.completions ++ [q.completion o r.attempt r.reply] <+: t.req.completions ∧ t.req.queue <:+ behind ∧
        (behind = [] → t.line.reqClaim = none ∧ t.disc = s.disc ∧ t.req = {
          queue := []
          head := .untaken
          completions := s.req.completions ++ [q.completion o r.attempt r.reply]
          reservations := s.req.reservations - 1 }))) ∧
  (∀ (q : Request) (n : Nat) (roster : Roster),
    let claim : Exchange → Byte → Nat → Nat → Option Ident → Claim := fun exchange object lc lr compare =>
      { owner := .request q.tag, exchange, dest := q.address, object, lc, lr, attempt := n, compare }
    let state := (roster.entry q.address).state
    (q.kind = .read → q.claim n roster = claim .poll q.object 0 q.length none) ∧
    (q.kind = .write → q.claim n roster = claim .write q.object q.length 0 none) ∧
    (q.kind = .probe → q.claim n roster = claim .poll 0 0 6 (some (roster.entry q.address).identity)) ∧
    (q.kind = .release → q.claim n roster = claim .release 0 1 0 none) ∧
    (q.kind = .read ∨ q.kind = .write ∨ q.kind = .probe →
      (q.targetPasses roster = true ↔ state = .active ∨ state = .suspect)) ∧
    (q.kind = .release → (q.targetPasses roster = true ↔ state = .active ∨ state = .suspect ∨ state = .lost))) ∧
  (∀ (q : Request) (o : LineOutcome) (n : Nat) (reply : Reply),
    let answered := o = .ok ∨ o = .nak ∨ o = .identityMismatch
    let bytes := (q.kind = .read ∧ o = .ok) ∨ (q.kind = .probe ∧ (o = .ok ∨ o = .identityMismatch))
    q.completion o n reply = {
      tag := q.tag, kind := q.kind, address := q.address, outcome := o, attempts := n
      status := if answered then reply.status else .ok
      length := if bytes then reply.length else 0
      payload := if bytes then reply.payload else []
      newStations := 0, rejoined := 0, rounds := 0, totalNoisy := 0 })

/-- The end of a transaction in DRAINING takes the controller to OFF with DRAINED set, after the outcome has gone to the Roster
and the owner: an issue ends, a request completes without a retry; for a beacon nothing is delivered (R76, R156, R58). -/
def Obligations.DrainEndsInOff : Prop :=
  (∀ (s : State) (r : Record), s.line.record = some r → r.owner = .beacon → r.phase = .closing →
    closingGap ≤ r.phaseTime → s.run.state ≠ .draining →
    exec .closingGapEnd s = .next { s with line := { s.line with
      record := none, boundary := if r.offGrid then false else s.line.boundary } }) ∧
  (∀ (s : State) (r : Record), s.line.record = some r → (r.owner = .discovery → r.after = .finish) → r.phase = .closing →
    closingGap ≤ r.phaseTime → s.run.state = .draining →
    ∃ t, exec .closingGapEnd s = .next t ∧ t.run = { s.run with state := .off, check := .idle } ∧
      s.timer.Closed t.timer ∧ t.line.record = none ∧ t.host.sticky.drained = true ∧
      t.line.schedClaim = none ∧ (∀ n, (t.entry n).status ≠ .due ∧ (t.entry n).status ≠ .held) ∧
      (r.owner = .beacon → t.roster = s.roster ∧ t.disc = s.disc ∧ (s.req.head = .untaken → t.req = s.req)) ∧
      (∀ o out, r.owner = .claim o → r.outcome = some out → t.disc = s.disc ∧
        t.roster = s.roster.deliver (r.exchange == some .release) out r.dest s.timer.cycle) ∧
      (∀ n out, r.owner = .claim (.scheduler n) → r.outcome = some out → (s.entry n).status = .inFlight →
        (t.entry n).lastOutcome = out ∧ (t.entry n).attempt = 0 ∧
        (t.entry n).status = if (s.entry n).disablePending then .disabled else .waiting) ∧
      (∀ tag q behind out, r.owner = .claim (.request tag) → r.outcome = some out → s.req.queue = q :: behind →
        t.req = { s.req with
          queue := behind, head := .untaken
          completions := s.req.completions ++ [q.completion out r.attempt r.reply]
          reservations := s.req.reservations - 1 }))

/-! ## The Station Roster -/

/-- A successful attempt on an ACTIVE or SUSPECT entry: consecutive failures 0, replied, the current cycle number in last reply
cycle; a SUSPECT entry becomes ACTIVE and its address is listed; the error total and the rejoin count stay (R26). -/
def Obligations.SuccessfulAttempt : Prop :=
  ∀ (s : State) (r : Record) (out : LineOutcome), s.attemptEnds r out →
    (s.roster.entry r.dest).state = .active ∨ (s.roster.entry r.dest).state = .suspect →
    out = .ok ∨ out = .nak ∨ out = .identityMismatch → ¬ (r.exchange = some .release ∧ out = .ok) →
    let e := s.roster.entry r.dest
    ∃ t, exec .closingGapEnd s = .next t ∧
      s.roster.Becomes t.roster r.dest
        { e with
          state := .active, failures := 0, replied := true, lastReply := s.timer.cycle
          conflict := e.conflict || out == .identityMismatch }
        (if e.state = .suspect ∨ out = .identityMismatch then s.roster.listed r.dest else s.roster.changes)

/-- A failed attempt on an ACTIVE or SUSPECT entry: both counts rise, saturating, and the new count against the thresholds
gives the state; ADDRESS_MISMATCH sets conflict; a change of either is listed (R27, R28). -/
def Obligations.FailedAttempt : Prop :=
  ∀ (s : State) (r : Record) (out : LineOutcome), s.attemptEnds r out →
    (s.roster.entry r.dest).state = .active ∨ (s.roster.entry r.dest).state = .suspect →
    out = .timeout ∨ out = .checkError ∨ out = .lengthError ∨ out = .addressMismatch →
    let e := s.roster.entry r.dest
    let n := min (e.failures + 1) 15
    let st :=
      if s.roster.lostAt ≤ n then .lost
      else if e.state = .suspect ∨ s.roster.suspectAt ≤ n then .suspect
      else .active
    ∃ t, exec .closingGapEnd s = .next t ∧
      s.roster.Becomes t.roster r.dest
        { e with
          state := st, failures := n, errorTotal := min (e.errorTotal + 1) 65535
          conflict := e.conflict || out == .addressMismatch }
        (if st ≠ e.state ∨ out = .addressMismatch then s.roster.listed r.dest else s.roster.changes)

/-- A RELEASE attempt answered OK frees an ACTIVE or SUSPECT entry, any outcome but ABORTED frees a LOST one: FREE with every
field 0, or RESERVED with identity and pinned kept.  A neutral outcome, an entry that is not in use, and another exchange's
outcome at a LOST entry leave the Roster as it was (R25, R29, R30, R31).  That the prior state, meaningless outside JOINING,
is kept in a RESERVED entry is the model's choice (log 11). -/
def Obligations.ReleaseFreesEntry : Prop :=
  ∀ (s : State) (r : Record) (out : LineOutcome), s.attemptEnds r out →
    let e := s.roster.entry r.dest
    let frees := r.exchange = some .release ∧
      ((out = .ok ∧ (e.state = .active ∨ e.state = .suspect)) ∨ (out ≠ .aborted ∧ e.state = .lost))
    (frees → ∃ t, exec .closingGapEnd s = .next t ∧
      s.roster.Becomes t.roster r.dest
        (if e.pinned then { state := .reserved, pinned := true, identity := e.identity, prior := e.prior } else {})
        (s.roster.listed r.dest)) ∧
    (¬ frees → out = .lineError ∨ out = .aborted ∨ e.state = .free ∨ e.state = .reserved ∨ e.state = .joining ∨
        e.state = .lost →
      ∃ t, exec .closingGapEnd s = .next t ∧ t.roster = s.roster)

/-- THRESH_LOAD in OFF with values in range: they come into force, every ACTIVE and SUSPECT entry is ACTIVE with count 0, the
SUSPECT ones are listed, the others stay; out of range BAD_ARG, outside OFF BAD_STATE (R35, R171; CMD after a refusal:
log 10).  The order in which several
addresses are listed is free (log 27). -/
def Obligations.ThresholdsLoaded : Prop :=
  ∀ s : State, s.accepts →
    let suspectAt := (s.host.thresh.extractLsb' 0 4).toNat
    let lostAt := (s.host.thresh.extractLsb' 4 4).toNat
    let discRetries := (s.host.thresh.extractLsb' 8 4).toNat
    let valid := 1 ≤ suspectAt ∧ suspectAt ≤ lostAt ∧ lostAt ≤ 15 ∧ 1 ≤ discRetries ∧ discRetries ≤ 7
    (s.run.state ≠ .off → exec .threshLoad s = .next (s.replied 0x20 .badState 0)) ∧
    (s.run.state = .off → ¬ valid → exec .threshLoad s = .next (s.replied 0x20 .badArg 0)) ∧
    (s.run.state = .off → valid → ∃ t, exec .threshLoad s = .next t ∧
      t = { s.replied 0x20 .done 0 with roster := t.roster, freeIndex := s.freeIndex + 1 } ∧
      (t.roster.suspectAt, t.roster.lostAt, t.roster.discRetries) = (suspectAt, lostAt, discRetries) ∧
      (∀ a, t.roster.entry a =
        let e := s.roster.entry a
        if e.state = .active ∨ e.state = .suspect then { e with state := .active, failures := 0 } else e) ∧
      ∃ added : List Nat, t.roster.changes = s.roster.changes ++ added ∧ added.Nodup ∧
        ∀ a, a ∈ added ↔ (s.roster.entry a).state = .suspect ∧ a ∉ s.roster.changes)

/-- PIN by its six lines, UNPIN and CLEAR_CONFLICT by the entry's state: what the entry becomes, whether its address is
listed, the result; nothing else changes (R36, R37, R38, R171; CMD after a refusal: log 10). -/
def Obligations.PinCommands : Prop :=
  ∀ s : State, s.accepts → s.roster.Lawful →
    let became := fun (t : State) (code : Word) (a : Nat) (e : StationEntry) (changes : List Nat) =>
      s.roster.Becomes t.roster a e changes ∧ t = { s.replied code .done 0 with roster := t.roster }
    (let a := (s.host.pinStage.get 0 0).toNat
     let i := identOfWords (s.host.pinStage.get 1 0) (s.host.pinStage.get 2 0) (s.host.pinStage.get 3 0)
     let e := s.roster.entry a
     let known := i ≠ 0 ∧ stationAddress a = true
     let free := e.state ≠ .joining ∧ ∀ b, b ≠ a → (s.roster.entry b).state ≠ .free → (s.roster.entry b).identity ≠ i
     (¬ known → exec .pin s = .next (s.replied 0x21 .badArg 0)) ∧
     (known → e.state = .joining → exec .pin s = .next (s.replied 0x21 .busy 0)) ∧
     (known → e.state ≠ .joining → ¬ free → exec .pin s = .next (s.replied 0x21 .idInUse 0)) ∧
     (known → free → e.state = .free → ∃ t, exec .pin s = .next t ∧
       became t 0x21 a { e with state := .reserved, pinned := true, identity := i } (s.roster.listed a)) ∧
     (known → free → e.state ≠ .free → e.identity = i → ∃ t, exec .pin s = .next t ∧
       became t 0x21 a { e with pinned := true } s.roster.changes) ∧
     (known → free → e.state ≠ .free → e.identity ≠ i → exec .pin s = .next (s.replied 0x21 .idInUse 0))) ∧
    (let a := s.host.arg.toNat
     let e := s.roster.entry a
     (stationAddress a = false → exec .unpin s = .next (s.replied 0x22 .badArg 0) ∧
       exec .clearConflict s = .next (s.replied 0x23 .badArg 0)) ∧
     (e.state = .joining → exec .unpin s = .next (s.replied 0x22 .busy 0) ∧
       exec .clearConflict s = .next (s.replied 0x23 .busy 0)) ∧
     (stationAddress a = true → e.state = .free → exec .unpin s = .next (s.replied 0x22 .notFound 0) ∧
       exec .clearConflict s = .next (s.replied 0x23 .notFound 0)) ∧
     (e.state = .reserved → ∃ t, exec .unpin s = .next t ∧ became t 0x22 a {} (s.roster.listed a)) ∧
     (e.state = .active ∨ e.state = .suspect ∨ e.state = .lost → ∃ t, exec .unpin s = .next t ∧
       became t 0x22 a { e with pinned := false } s.roster.changes) ∧
     (e.state ≠ .joining → e.state ≠ .free → ∃ t, exec .clearConflict s = .next t ∧
       became t 0x23 a { e with conflict := false } s.roster.changes))

/-- STATION_SNAP and SCHED_SNAP copy an entry's fields into the snapshot area, each at its place, and answer its state or
status; a number that names no entry is refused BAD_ARG; nothing else changes (R39, R109, R171, R178; CMD after a refusal:
log 10). -/
def Obligations.SnapshotsCopyEntries : Prop :=
  ∀ s : State, s.accepts →
    let n := s.host.arg.toNat
    let copied := fun (t : State) (code : Word) (value : Nat) =>
      t = { s.replied code .done value with host := { (s.replied code .done value).host with snap := t.host.snap } }
    let word := fun (t : State) (k : Nat) => t.host.snap.get k 0
    let field := fun (w : Word) (low width : Nat) => (w.extractLsb' low width).toNat
    (stationAddress n = false → exec .stationSnap s = .next (s.replied 0x25 .badArg 0)) ∧
    (¬ n < 32 → exec .schedSnap s = .next (s.replied 0x33 .badArg 0)) ∧
    (stationAddress n = true → s.roster.Lawful → ∃ t, exec .stationSnap s = .next t ∧
      let e := s.roster.entry n
      copied t 0x25 e.state.code ∧
      field (word t 0) 0 2 = 1 ∧ field (word t 0) 8 6 = n ∧
      field (word t 1) 0 3 = e.state.code ∧ (word t 1).getLsbD 4 = e.pinned ∧ (word t 1).getLsbD 5 = e.conflict ∧
      (word t 1).getLsbD 6 = e.replied ∧ field (word t 1) 8 3 = e.prior.code ∧
      identOfWords (word t 2) (word t 3) (word t 4) = e.identity ∧
      (word t 5).toNat = e.failures ∧ (word t 6).toNat = e.errorTotal ∧ (word t 7).toNat = e.rejoins ∧
      word t 8 = e.lastReply ∧
      field (word t 9) 0 4 = s.roster.suspectAt ∧ field (word t 9) 4 4 = s.roster.lostAt ∧
      field (word t 9) 8 4 = s.roster.discRetries ∧ word t 10 = 0 ∧ word t 11 = 0) ∧
    (n < 32 → ∃ t, exec .schedSnap s = .next t ∧
      let e := s.entry n
      copied t 0x33 e.status.code ∧
      field (word t 0) 0 2 = 2 ∧ field (word t 0) 8 5 = n ∧
      field (word t 1) 0 3 = e.status.code ∧ (word t 1).getLsbD 3 = e.disablePending ∧
      (e.attempt < 8 → field (word t 1) 4 3 = e.attempt) ∧ field (word t 1) 8 5 = e.lastOutcome.code ∧
      field (word t 1) 14 2 = e.lastStatus.code ∧
      word t 2 = e.target ∧ (word t 3).loByte = e.object ∧ (word t 3).hiByte = e.direction ∧ word t 4 = e.length ∧
      word t 5 = e.period ∧ word t 6 = e.phase ∧ (word t 7).loByte = e.retries ∧ (word t 7).hiByte = e.policy ∧
      (e.countdown < 256 → field (word t 8) 0 8 = e.countdown) ∧ (e.late < 256 → field (word t 8) 8 8 = e.late) ∧
      (e.skipped < 256 → field (word t 9) 0 8 = e.skipped) ∧ (e.failed < 256 → field (word t 9) 8 8 = e.failed) ∧
      word t 10 = e.lastCycle ∧
      word t 11 = if 1 ≤ e.length.toNat ∧ e.length.toNat ≤ 32
        then BitVec.ofNat 16 (124 + 10 * e.length.toNat + s.rw) else 0)

/-- POP_CHANGE removes the oldest address and POP_COMPLETION the oldest record, and each answers what it removed: the address,
the record's tag; on an empty list or queue EMPTY.  A slot freed lets an UNTAKEN head be taken up in RUNNING, for whose claim
a reservation is taken; the completions behind stay in order (R41, R135, R136, R138, R145, R171; CMD after a refusal:
log 10). -/
def Obligations.PopsReturnOldest : Prop :=
  ∀ s : State, s.accepts →
    (s.roster.changes = [] → exec .popChange s = .next (s.replied 0x24 .empty 0)) ∧
    (∀ a rest, s.roster.changes = a :: rest →
      exec .popChange s = .next ({ s with roster := { s.roster with changes := rest } }.replied 0x24 .done a)) ∧
    (s.req.completions = [] → exec .popCompletion s = .next (s.replied 0x52 .empty 0)) ∧
    (∀ c rest, s.req.completions = c :: rest →
      (s.run.state ≠ .running ∨ s.req.head ≠ .untaken ∨ s.req.queue = [] →
        exec .popCompletion s =
          .next ({ s with req := { s.req with completions := rest } }.replied 0x52 .done c.tag)) ∧
      (∀ q behind, s.run.state = .running → s.req.head = .untaken → rest.length + s.req.reservations < 16 →
        s.req.queue = q :: behind → q.kind ≠ .discover → q.targetPasses s.roster = true → s.tooLong q = false →
        exec .popCompletion s = .next ({ s with
          line := { s.line with reqClaim := some (q.claim 1 s.roster) }
          req := { s.req with
            completions := rest, head := .claimed, reservations := s.req.reservations + 1 } }.replied 0x52 .done c.tag)) ∧
      ∃ t, exec .popCompletion s = .next t ∧ t.host = (s.replied 0x52 .done c.tag).host ∧ rest <+: t.req.completions ∧
        t.roster = s.roster ∧ t.run = s.run ∧ t.timer = s.timer ∧ t.sched = s.sched ∧
        t.line.record = s.line.record)

/-- The laws of the station table and the change list: fields in range, FREE entries without an identity, no identity held
twice, each address listed at most once, the thresholds in range (R21, R24, R37, R40). -/
def Obligations.RosterLaw : Prop := ∀ s t : State, s.roster.Lawful → step s = .next t → t.roster.Lawful

/-- An entry is JOINING exactly while the ASSIGN exchange for it is in flight, and the count of consecutive failures agrees
with ACTIVE or SUSPECT, as the entry stands or stood before JOINING (R27, R32). -/
def Obligations.JoiningAndHealthLaw : Prop :=
  ∀ s t : State, s.RunLawful → s.JoiningLawful → s.roster.HealthLawful → step s = .next t →
    t.JoiningLawful ∧ t.roster.HealthLawful

/-! ## The Poll Scheduler -/

/-- SCHED_SET copies the stage into a DISABLED or STARVED entry as written, clears its live fields and empties its mailbox;
SCHED_ENABLE makes its ten checks in order and then sets WAITING with the countdown at the phase, and answers the
reservation (R51, R106, R107, R122, R171; CMD after a refusal: log 10). -/
def Obligations.ScheduleEntryConfigured : Prop :=
  ∀ s : State, s.accepts →
    let n := s.host.arg.toNat
    let e := s.entry n
    let stage := fun k => s.host.schedStage.get k 0
    let reserved := fun rw => 124 + 10 * e.length.toNat + rw
    exec .schedSet s = .next (
      if ¬ n < 32 then s.replied 0x30 .badArg 0
      else if e.status = .waiting ∨ e.status = .due ∨ e.status = .inFlight ∨ e.status = .held then
        s.replied 0x30 .entryEnabled 0
      else (((s.setEntry n {
        target := stage 0, object := (stage 1).loByte, direction := (stage 1).hiByte, length := stage 2
        period := stage 3, phase := stage 4, retries := (stage 5).loByte, policy := (stage 5).hiByte
        status := .disabled, countdown := 0, attempt := 0, late := 0, skipped := 0, failed := 0
        lastOutcome := .ok, lastCycle := 0, disablePending := false }).setMailbox n {}).replied 0x30 .done 0)) ∧
    exec .schedEnable s = .next (
      if ¬ n < 32 then s.replied 0x31 .badArg 0
      else if e.status = .waiting ∨ e.status = .due ∨ e.status = .inFlight ∨ e.status = .held then
        s.replied 0x31 .entryEnabled 0
      else if ¬ (1 ≤ e.target.toNat ∧ e.target.toNat ≤ 60) then s.replied 0x31 .badArg 1
      else if ¬ (e.direction = 0 ∨ e.direction = 1) then s.replied 0x31 .badArg 2
      else if ¬ (1 ≤ e.length.toNat ∧ e.length.toNat ≤ 32) then s.replied 0x31 .badArg 3
      else if ¬ (1 ≤ e.period.toNat ∧ e.period.toNat ≤ 255) then s.replied 0x31 .badArg 4
      else if ¬ e.phase.toNat < e.period.toNat then s.replied 0x31 .badArg 5
      else if ¬ e.retries.toNat ≤ 3 then s.replied 0x31 .badArg 6
      else if ¬ e.policy.toNat ≤ 1 then s.replied 0x31 .badArg 7
      else if s.timer.inForce.schedBits < reserved s.timer.inForce.respWait then s.replied 0x31 .tooLong 1
      else if s.timer.pendingSet.schedBits < reserved s.timer.pendingSet.respWait then s.replied 0x31 .tooLong 2
      else (s.setEntry n { e with
        status := .waiting, countdown := e.phase.toNat, attempt := 0, disablePending := false }).replied 0x31 .done
          (reserved s.timer.inForce.respWait))

/-- SCHED_DISABLE by the entry's status: DISABLED at once, with the claim that names it withdrawn and, for a waiting retry, the
issue counted in failed; an attempt on the line only sets disable pending.  Where a claim is withdrawn the Scheduler chooses
again in RUNNING and SCHED.  The mailboxes and the entry's counts stay (R108, R113, R114, R171; CMD after a refusal: log 10). -/
def Obligations.ScheduleEntryDisabled : Prop :=
  ∀ s : State, s.accepts →
    let n := s.host.arg.toNat
    let e := s.entry n
    let chosenAgain := fun (t : State) (e' : SchedEntry) =>
      t.entry n = e' ∧ t.claimNames n = false ∧ t.sched.mailboxes = s.sched.mailboxes ∧
        t.host = (s.replied 0x32 .done 0).host ∧ t.run = s.run ∧ t.timer = s.timer ∧ t.roster = s.roster ∧
        t.disc = s.disc ∧ t.req = s.req ∧ t.line.record = s.line.record ∧
        (s.run.state = .running → s.timer.window = .sched → (s.setEntry n e').Chosen t) ∧
        (¬ (s.run.state = .running ∧ s.timer.window = .sched) →
          (∀ k, t.entry k = (s.setEntry n e').entry k) ∧ t.line.schedClaim = none)
    (¬ n < 32 → exec .schedDisable s = .next (s.replied 0x32 .badArg 0)) ∧
    (n < 32 →
      (e.status = .disabled ∨ e.status = .starved ∨ e.status = .waiting ∨ e.status = .held ∨
          (e.status = .due ∧ s.claimNames n = false) →
        exec .schedDisable s = .next ((s.setEntry n { e with status := .disabled }).replied 0x32 .done 0)) ∧
      (e.status = .due → s.claimNames n = true →
        ∃ t, exec .schedDisable s = .next t ∧ chosenAgain t { e with status := .disabled }) ∧
      (e.status = .inFlight → s.entryOnLine n = true →
        exec .schedDisable s = .next ((s.setEntry n { e with disablePending := true }).replied 0x32 .done 1)) ∧
      (e.status = .inFlight → s.entryOnLine n = false →
        ∃ t, exec .schedDisable s = .next t ∧ chosenAgain t { e with
          status := .disabled, attempt := 0, disablePending := false, failed := min (e.failed + 1) 255 }))

/-- TAKE copies a full READ mailbox into the take buffer, each field at its place and 0 beyond the length, and clears full; PUT
copies the put buffer into a WRITE mailbox, sets fresh, and marks it replaced during flight while an attempt of the entry is
on the line.  Each makes its three checks in order, and nothing else changes (R125, R128, R171, R178; CMD after a refusal:
log 10). -/
def Obligations.TakeAndPut : Prop :=
  ∀ s : State, s.accepts →
    let n := s.host.arg.toNat
    let m := s.mailbox n
    let len := (s.host.putBuf.get 0 0).toNat
    let overrun := if m.fresh then min (m.overrun + 1) 255 else m.overrun
    (¬ n < 32 → exec .take s = .next (s.replied 0x40 .badArg 0) ∧ exec .put s = .next (s.replied 0x41 .badArg 0)) ∧
    (n < 32 →
      ((s.entry n).direction ≠ 0 → exec .take s = .next (s.replied 0x40 .wrongDirection 0)) ∧
      ((s.entry n).direction = 0 → m.full = false → exec .take s = .next (s.replied 0x40 .empty 0)) ∧
      ((s.entry n).direction = 0 → m.full = true →
        ∃ t, exec .take s = .next t ∧
          (let done := (s.setMailbox n { m with full := false }).replied 0x40 .done m.data.length
           t = { done with host := { done.host with takeBuf := t.host.takeBuf } }) ∧
          (m.data.length ≤ 32 → m.overrun ≤ 255 →
            (t.host.takeBuf.get 0 0).loByte.toNat = n ∧ (t.host.takeBuf.get 0 0).hiByte.toNat = m.data.length ∧
            t.host.takeBuf.get 1 0 = m.fillCycle ∧ (t.host.takeBuf.get 2 0).toNat = m.overrun ∧
            ∀ k, k < 16 → (t.host.takeBuf.get (3 + k) 0).hiByte = m.data.getD (2 * k) 0 ∧
              (t.host.takeBuf.get (3 + k) 0).loByte = m.data.getD (2 * k + 1) 0)) ∧
      ((s.entry n).direction ≠ 1 → exec .put s = .next (s.replied 0x41 .wrongDirection 0)) ∧
      ((s.entry n).direction = 1 → ¬ (1 ≤ len ∧ len ≤ 32 ∧ len ≤ (s.entry n).length.toNat) →
        exec .put s = .next (s.replied 0x41 .badArg 1)) ∧
      ((s.entry n).direction = 1 → 1 ≤ len → len ≤ 32 → len ≤ (s.entry n).length.toNat →
        ∃ data : List Byte, data.length = len ∧
          (∀ k, k < len → data.getD k 0 =
            if k % 2 = 0 then (s.host.putBuf.get (1 + k / 2) 0).hiByte else (s.host.putBuf.get (1 + k / 2) 0).loByte) ∧
          exec .put s = .next ((s.setMailbox n { m with
            data, fresh := true, overrun, replaced := m.replaced || s.entryOnLine n }).replied 0x41 .done overrun)))

/-- The laws of the schedule: an enabled entry keeps a configuration that SCHED_ENABLE would pass and that fits the scheduled
window in force, its countdown and attempts stay within it, and a claim is held in the scheduled window of RUNNING alone
(R104, R107, R110, R113, R117 to R120). -/
def Obligations.SchedLaw : Prop := ∀ s t : State, s.SchedLawful → step s = .next t → t.SchedLawful

/-! ## The Request Engine -/

/-- SUBMIT makes its ten checks in order and then appends the record with the fields present for its kind, the absent ones 0;
behind another record, outside RUNNING, or with no completion slot left, nothing else changes; the record that becomes the head
in RUNNING and passes the head checks is claimed with a reservation, a target that is not issuable completes NO_STATION, and a
DISCOVER starts a sweep (R84, R133, R134, R136, R137, R138, R171, R180; CMD after a refusal: log 10). -/
def Obligations.SubmitAppends : Prop :=
  ∀ s : State, s.accepts →
    let stage := fun k => s.host.reqStage.get k 0
    let tag := (stage 0).toNat
    let kind := (stage 1).loByte.toNat
    let retries := (stage 1).hiByte.toNat
    let address := (stage 2).loByte.toNat
    let length := (stage 2).hiByte.toNat
    let object := (stage 3).toNat
    let reserved := fun rw => match kind with
      | 0 | 1 => 124 + 10 * length + rw
      | 2 => 184 + rw
      | 3 => 134 + rw
      | _ => 388 + rw
    let refusal : Option (ResultCode × Nat) :=
      if 5 ≤ kind then some (.badArg, 1)
      else if 255 < tag then some (.badArg, 2)
      else if kind ≠ 4 ∧ ¬ (1 ≤ address ∧ address ≤ 60) then some (.badArg, 3)
      else if kind ≤ 1 ∧ 255 < object then some (.badArg, 4)
      else if kind ≤ 1 ∧ ¬ (1 ≤ length ∧ length ≤ 32) then some (.badArg, 5)
      else if kind ≠ 4 ∧ 3 < retries then some (.badArg, 6)
      else if tag ∈ s.tagsInUse then some (.dupTag, 0)
      else if 16 ≤ s.req.queue.length then some (.queueFull, 0)
      else if s.timer.inForce.openBits < reserved s.timer.inForce.respWait then some (.tooLong, 1)
      else if s.timer.pendingSet.openBits < reserved s.timer.pendingSet.respWait then some (.tooLong, 2)
      else none
    (∀ code val, refusal = some (code, val) → exec .submit s = .next (s.replied 0x50 code val)) ∧
    (refusal = none → ∃ q : Request,
      q.tag = tag ∧ q.kind.code = kind ∧
      (kind ≠ 4 → q.address = address ∧ q.retries = retries) ∧ (kind = 4 → q.address = 0 ∧ q.retries = 0) ∧
      (kind ≤ 1 → q.object.toNat = object ∧ q.length = length) ∧ (2 ≤ kind → q.object = 0 ∧ q.length = 0) ∧
      (kind ≠ 1 → q.payload = []) ∧
      (kind = 1 → q.payload.length = length ∧ ∀ k, k < length → q.payload.getD k 0 =
        if k % 2 = 0 then (stage (4 + k / 2)).hiByte else (stage (4 + k / 2)).loByte) ∧
      (let appended := { s with req := { s.req with queue := s.req.queue ++ [q] } }
       (s.req.queue ≠ [] ∨ s.run.state ≠ .running ∨ 16 ≤ s.req.completions.length + s.req.reservations →
        exec .submit s = .next (appended.replied 0x50 .done (s.req.queue.length + 1))) ∧
       (s.req.queue = [] → s.req.head = .untaken → s.run.state = .running →
        s.req.completions.length + s.req.reservations < 16 → kind ≠ 4 → q.targetPasses s.roster = true →
        exec .submit s = .next ({ appended with
          line := { s.line with reqClaim := some (q.claim 1 s.roster) }
          req := { appended.req with
            head := .claimed, reservations := s.req.reservations + 1 } }.replied 0x50 .done 1)) ∧
       (s.req.queue = [] → s.req.head = .untaken → s.run.state = .running →
        s.req.completions.length + s.req.reservations < 16 → kind ≠ 4 → q.targetPasses s.roster = false →
        exec .submit s = .next ({ s with req := { s.req with
          completions := s.req.completions ++ [q.completion .noStation 0 {}] } }.replied 0x50 .done 1)) ∧
       (s.req.queue = [] → s.req.head = .untaken → s.run.state = .running →
        s.req.completions.length + s.req.reservations < 16 → kind = 4 → s.disc = .idle →
        exec .submit s = .next ({ s with
          line := { s.line with roundClaim := true }
          disc := .sweeping { tag }
          req := { s.req with reservations := s.req.reservations + 1 } }.replied 0x50 .done 1))))

/-- CANCEL by the place of the tag: behind the head, or the head before its first grant, the record leaves the queue with no
completion, and a claim and its reservation are given back; IN_FLIGHT refuses; a sweep that waits ends CANCELLED, a round only
has the request noted; elsewhere NOT_FOUND (R98, R146, R171; CMD after a refusal: log 10). -/
def Obligations.CancelWithdraws : Prop :=
  ∀ s : State, s.accepts →
    let tag := s.host.arg.toNat
    (255 < tag → exec .cancel s = .next (s.replied 0x51 .badArg 0)) ∧
    (tag ≤ 255 →
      (∀ q front behind, s.req.queue = front ++ q :: behind → front ≠ [] → q.tag = tag →
        (∀ p ∈ front, p.tag ≠ tag) →
        exec .cancel s =
          .next ({ s with req := { s.req with queue := front ++ behind } }.replied 0x51 .done 0)) ∧
      (∀ q behind, s.req.queue = q :: behind → q.tag = tag →
        (s.req.head = .untaken → behind = [] ∨ s.run.state ≠ .running →
          exec .cancel s = .next ({ s with req := { s.req with queue := behind } }.replied 0x51 .done 0)) ∧
        (s.req.head = .claimed → behind = [] →
          exec .cancel s = .next ({ s with
            line := { s.line with reqClaim := none }
            req := { s.req with
              queue := [], head := .untaken, reservations := s.req.reservations - 1 } }.replied 0x51 .done 0)) ∧
        (s.req.head = .untaken ∨ s.req.head = .claimed →
          ∃ t, exec .cancel s = .next t ∧ t.host = (s.replied 0x51 .done 0).host ∧ t.roster = s.roster ∧
            t.run = s.run ∧ t.timer = s.timer ∧ t.sched = s.sched ∧ t.line.record = s.line.record ∧
            t.req.queue <:+ behind ∧ s.req.completions <+: t.req.completions) ∧
        (s.req.head = .onLine ∨ s.req.head.isRetryWaiting = true →
          exec .cancel s = .next (s.replied 0x51 .inFlight 0))) ∧
      ((∀ q ∈ s.req.queue, q.tag ≠ tag) →
        (∀ sw, s.disc = .sweeping sw → sw.tag = tag →
          exec .cancel s = .next ({ s with
            line := { s.line with roundClaim := false }
            disc := .idle
            req := { s.req with
              completions := s.req.completions ++ [sw.completion .cancelled]
              reservations := s.req.reservations - 1 } }.replied 0x51 .done 1)) ∧
        (∀ sw rd, s.disc = .inRound sw rd → sw.tag = tag →
          exec .cancel s =
            .next ({ s with disc := .inRound { sw with cancelRequested := true } rd }.replied 0x51 .done 1)) ∧
        (s.disc.tag ≠ some tag → exec .cancel s = .next (s.replied 0x51 .notFound 0))))

/-- The laws of the engine, the unit and the line: an attempt is on the line, a claim placed, a round in flight exactly as the
head's condition and the unit's state say; the records and the reservations together never exceed 16; at most 16 requests,
with tags pairwise different (R61, R83, R134, R135, R136). -/
def Obligations.EngineLaw : Prop := ∀ s t : State, s.EngineLawful → step s = .next t → t.EngineLawful

/-! ## The Host Port -/

/-- The window: WIN_SEL takes any value and resets the index; WIN_INDEX takes values below the size of the region selected;
WIN_DATA reads the word at the index and writes it where the host fills the region, and the index then advances with its wrap.
With no region selected a read gives 0 and a write changes nothing (R166, R167, R168, R169).  And what is shown where it is
read: CQ_HEAD and TIMING by the layouts of section 12.5, STATUS, QCOUNT, CHGCOUNT, the mailbox image and LINESTAT by the fields
of section 12.2, with the codes of sections 12.3 and 12.4 (R132, R176, R178, R179). -/
def Obligations.WindowAccess : Prop :=
  (∀ (s : State) (v : Word), s.accepts →
    let sel := s.host.winSel.toNat
    let i := s.host.winIndex.toNat
    let size := ([12, 20, 6, 17, 19, 22, 4, 12] : List Nat).getD sel 0
    let next : Word := if i + 1 < size then s.host.winIndex + 1 else 0
    exec (.winSelWrite v) s = .next { s with host := { s.host with winSel := v, winIndex := 0 } } ∧
    exec (.winIndexWrite v) s = .next (if v.toNat < size then { s with host := { s.host with winIndex := v } } else s) ∧
    (sel < 8 → exec .winDataRead s = .next { s with
      host := { s.host with winIndex := next }, dataBus := s.regionWord s.host.winSel i }) ∧
    (8 ≤ sel → exec .winDataRead s = .next { s with dataBus := 0 }) ∧
    (hostFilled s.host.winSel = false → sel < 8 →
      exec (.winDataWrite v) s = .next { s with host := { s.host with winIndex := next } }) ∧
    (8 ≤ sel → exec (.winDataWrite v) s = .next s) ∧
    (hostFilled s.host.winSel = true → i < size → ∃ t, exec (.winDataWrite v) s = .next t ∧
      t = { s with host := { s.host with
        winIndex := next, reqStage := t.host.reqStage, schedStage := t.host.schedStage, putBuf := t.host.putBuf
        pinStage := t.host.pinStage } } ∧
      t.regionWord s.host.winSel i = v ∧
      ∀ (region : Word) (k : Nat), region ≠ s.host.winSel ∨ k ≠ i → t.regionWord region k = s.regionWord region k)) ∧
  (∀ s : State,
    let field := fun (w : Word) (low width : Nat) => (w.extractLsb' low width).toNat
    let clear := fun (w : Word) (bits : List Nat) => ∀ k ∈ bits, w.getLsbD k = false
    (s.req.completions = [] → ∀ k, s.regionWord 5 k = 0) ∧
    (∀ c rest, s.req.completions = c :: rest →
      let word := s.regionWord 5
      (c.tag < 256 → field (word 0) 0 8 = c.tag) ∧ field (word 0) 8 8 = c.kind.code ∧
      (c.address < 256 → field (word 1) 0 8 = c.address) ∧ (c.attempts < 256 → field (word 1) 8 8 = c.attempts) ∧
      field (word 2) 0 8 = c.outcome.code ∧ field (word 2) 8 8 = c.status.code ∧
      (c.length < 256 → field (word 3) 0 8 = c.length) ∧ (c.totalNoisy < 256 → field (word 3) 8 8 = c.totalNoisy) ∧
      (∀ k, k < 16 → (word (4 + k)).extractLsb' 8 8 = c.payload.getD (2 * k) 0 ∧
        (word (4 + k)).extractLsb' 0 8 = c.payload.getD (2 * k + 1) 0) ∧
      (c.newStations < 256 → field (word 20) 0 8 = c.newStations) ∧ (c.rejoined < 256 → field (word 20) 8 8 = c.rejoined) ∧
      (c.rounds < 65536 → (word 21).toNat = c.rounds)) ∧
    (let word := fun k => (s.regionWord 7 k).toNat
     (∀ (t : TimingSet) (low : Nat), (t, low) = (s.timer.inForce, 0) ∨ (t, low) = (s.timer.pendingSet, 5) →
       (t.bitdiv < 65536 → word low = t.bitdiv) ∧ (t.tickdiv < 65536 → word (low + 1) = t.tickdiv) ∧
       (t.schedLen < 65536 → word (low + 2) = t.schedLen) ∧ (t.openLen < 65536 → word (low + 3) = t.openLen) ∧
       (t.respWait < 65536 → word (low + 4) = t.respWait)) ∧
     word 10 = (if s.timer.pendingPresent then 1 else 0) ∧ word 11 = s.timer.window.code) ∧
    (let status := s.readReg 2
     field status 0 3 = s.run.state.code ∧ field status 4 2 = s.timer.window.code ∧
     (status.getLsbD 6 = true ↔ s.disc ≠ .idle) ∧ field status 8 2 = s.run.lineCheck.code ∧
     status.getLsbD 10 = s.timer.pendingPresent ∧ clear status [3, 7, 11, 12, 13, 14, 15]) ∧
    (s.req.queue.length ≤ 16 → s.req.completions.length ≤ 16 →
      field (s.readReg 10) 0 5 = s.req.queue.length ∧ field (s.readReg 10) 8 5 = s.req.completions.length ∧
      clear (s.readReg 10) [5, 6, 7, 13, 14, 15]) ∧
    (s.roster.changes.length ≤ 60 → (s.readReg 11).toNat = s.roster.changes.length) ∧
    (let image := fun n => if (s.entry n).direction = 0 then (s.mailbox n).full
       else if (s.entry n).direction = 1 then (s.mailbox n).fresh else false
     ∀ n, n < 16 → (s.readReg 12).getLsbD n = image n ∧ (s.readReg 13).getLsbD n = image (16 + n)) ∧
    (s.line.echoCount ≤ 8 → (s.readReg 14).toNat = s.line.echoCount) ∧
    (s.line.lineErrors ≤ 65535 → (s.readReg 15).toNat = s.line.lineErrors) ∧
    (s.readReg 7).toNat = s.host.result.code ∧ s.readReg 8 = s.host.resultVal ∧ s.readReg 9 = s.timer.cycle) ∧
  ([RunState.init, .off, .running, .draining, .faulted, .checking].map RunState.code = List.range 6 ∧
    [Window.noWindow, .sched, .openWin].map Window.code = List.range 3 ∧
    [CheckResult.none, .clear, .stuck].map CheckResult.code = List.range 3 ∧
    [StationState.free, .reserved, .joining, .active, .suspect, .lost].map StationState.code = List.range 6 ∧
    [SchedStatus.disabled, .waiting, .due, .inFlight, .held, .starved].map SchedStatus.code = List.range 6 ∧
    [ReqKind.read, .write, .probe, .release, .discover].map ReqKind.code = List.range 5 ∧
    [ReplyStatus.ok, .busy, .noObject, .refused].map ReplyStatus.code = List.range 4 ∧
    [LineOutcome.ok, .nak, .timeout, .checkError, .lengthError, .addressMismatch, .identityMismatch, .lineError,
      .noStation, .tooLong, .aborted, .stopped, .sweepBusy, .tableFull, .noisy, .windowTooShort, .cancelled].map
      LineOutcome.code = List.range 17 ∧
    [ResultCode.done, .notReady, .badState, .badArg, .queueFull, .dupTag, .tooLong, .notFound, .inFlight, .empty, .busy,
      .idInUse, .entryEnabled, .wrongDirection, .unknownCommand].map ResultCode.code = List.range 15)

/-- A write to EVENT clears the sticky flags whose bits are 1 and no level flag, a write to ENABLE stores nine enables, nothing
else changes; and IRQ# follows: asserted exactly while some flag and its enable are set, outside INIT and RESET#
(R42, R145, R151, R162, R174, R175). -/
def Obligations.EventFlagsAndEnables : Prop :=
  (∀ (s : State) (v : Word), s.accepts → ∃ t, exec (.eventWrite v) s = .next t ∧
    t = { s with host := { s.host with sticky := t.host.sticky } } ∧
    ∀ k, t.eventWord.getLsbD k = (s.eventWord.getLsbD k && !(decide (3 ≤ k) && v.getLsbD k))) ∧
  (∀ (s : State) (v : Word), s.accepts →
    exec (.enableWrite v) s = .next { s with host := { s.host with enable := v.extractLsb' 0 9 } }) ∧
  (∀ s : State,
    (s.eventWord.getLsbD 0 = true ↔ s.req.completions ≠ []) ∧ (s.eventWord.getLsbD 1 = true ↔ s.roster.changes ≠ []) ∧
    (s.eventWord.getLsbD 2 = true ↔ s.run.state = .faulted ∨ s.run.state = .checking) ∧
    (∀ k, 9 ≤ k → s.eventWord.getLsbD k = false) ∧
    (s.irqAsserted = true ↔ s.accepts ∧ ∃ k, s.eventWord.getLsbD k = true ∧ s.host.enable.getLsbD k = true))

/-- A write by word address: ARG, the timing registers and THRESH store all 16 bits; read-only and unassigned places take no
write; the others act as their own rows, CMD by its code.  A code that names no command answers UNKNOWN_COMMAND (R164, R165,
R171, R172, R179); that CMD then holds the code is the model's reading (log 10). -/
def Obligations.RegisterWrites : Prop :=
  ∀ (s : State) (v : Word), s.accepts →
    let stored := fun (addr : BitVec 5) (h : HostPort) => exec (.registerWrite addr v) s = .next { s with host := h }
    stored 6 { s.host with arg := v } ∧ stored 16 { s.host with tBitdiv := v } ∧
    stored 17 { s.host with tTickdiv := v } ∧ stored 18 { s.host with tSched := v } ∧
    stored 19 { s.host with tOpen := v } ∧ stored 20 { s.host with tResp := v } ∧
    stored 21 { s.host with thresh := v } ∧
    (∀ addr, takesNoWrite addr = true → exec (.registerWrite addr v) s = .next s) ∧
    exec (.registerWrite 3 v) s = exec (.eventWrite v) s ∧ exec (.registerWrite 4 v) s = exec (.enableWrite v) s ∧
    exec (.registerWrite 22 v) s = exec (.winSelWrite v) s ∧ exec (.registerWrite 23 v) s = exec (.winIndexWrite v) s ∧
    exec (.registerWrite 24 v) s = exec (.winDataWrite v) s ∧
    (commandCodes.contains v.toNat = false →
      exec (.registerWrite 5 v) s = .next (s.replied v .unknownCommand 0) ∧
      exec (.unknownCommand v) s = .next (s.replied v .unknownCommand 0)) ∧
    (∀ row ∈ ([(0x01, .reset), (0x02, .start), (0x03, .stop), (0x04, .halt), (0x05, .resume), (0x10, .timingLoad),
        (0x20, .threshLoad), (0x21, .pin), (0x22, .unpin), (0x23, .clearConflict), (0x24, .popChange),
        (0x25, .stationSnap), (0x30, .schedSet), (0x31, .schedEnable), (0x32, .schedDisable), (0x33, .schedSnap),
        (0x40, .take), (0x41, .put), (0x50, .submit), (0x51, .cancel), (0x52, .popCompletion)] : List (Word × Instr)),
      exec (.registerWrite 5 row.1) s = exec row.2 s)
end

