-- ==== Sys2Proof/Laws/State.lean ====
section
/-! SUPPORT. The fields of a state after each named update: one lemma for each field and update, true by definition. -/

namespace Sys2Proof.Machine

open Sys2Proof

variable (s : State)


/-! ### setResult -/

@[simp] theorem State.setResult_run (code : ResultCode) (val : Nat) : (s.setResult code val).run = s.run := rfl
@[simp] theorem State.setResult_timer (code : ResultCode) (val : Nat) : (s.setResult code val).timer = s.timer := rfl
@[simp] theorem State.setResult_line (code : ResultCode) (val : Nat) : (s.setResult code val).line = s.line := rfl
@[simp] theorem State.setResult_roster (code : ResultCode) (val : Nat) :
    (s.setResult code val).roster = s.roster := rfl
@[simp] theorem State.setResult_disc (code : ResultCode) (val : Nat) : (s.setResult code val).disc = s.disc := rfl
@[simp] theorem State.setResult_sched (code : ResultCode) (val : Nat) : (s.setResult code val).sched = s.sched := rfl
@[simp] theorem State.setResult_req (code : ResultCode) (val : Nat) : (s.setResult code val).req = s.req := rfl
@[simp] theorem State.setResult_host (code : ResultCode) (val : Nat) :
    (s.setResult code val).host = { s.host with result := code, resultVal := BitVec.ofNat 16 val } := rfl
@[simp] theorem State.setResult_dataBus (code : ResultCode) (val : Nat) :
    (s.setResult code val).dataBus = s.dataBus := rfl
@[simp] theorem State.setResult_freeIndex (code : ResultCode) (val : Nat) :
    (s.setResult code val).freeIndex = s.freeIndex := rfl
@[simp] theorem State.setResult_pending (code : ResultCode) (val : Nat) :
    (s.setResult code val).pending = s.pending := rfl

/-! ### setCmd -/

@[simp] theorem State.setCmd_run (code : Word) : (s.setCmd code).run = s.run := rfl
@[simp] theorem State.setCmd_timer (code : Word) : (s.setCmd code).timer = s.timer := rfl
@[simp] theorem State.setCmd_line (code : Word) : (s.setCmd code).line = s.line := rfl
@[simp] theorem State.setCmd_roster (code : Word) : (s.setCmd code).roster = s.roster := rfl
@[simp] theorem State.setCmd_disc (code : Word) : (s.setCmd code).disc = s.disc := rfl
@[simp] theorem State.setCmd_sched (code : Word) : (s.setCmd code).sched = s.sched := rfl
@[simp] theorem State.setCmd_req (code : Word) : (s.setCmd code).req = s.req := rfl
@[simp] theorem State.setCmd_host (code : Word) : (s.setCmd code).host = { s.host with cmd := code } := rfl
@[simp] theorem State.setCmd_dataBus (code : Word) : (s.setCmd code).dataBus = s.dataBus := rfl
@[simp] theorem State.setCmd_freeIndex (code : Word) : (s.setCmd code).freeIndex = s.freeIndex := rfl
@[simp] theorem State.setCmd_pending (code : Word) : (s.setCmd code).pending = s.pending := rfl

/-! ### nextFree -/

@[simp] theorem State.nextFree_run : (s.nextFree).run = s.run := rfl
@[simp] theorem State.nextFree_timer : (s.nextFree).timer = s.timer := rfl
@[simp] theorem State.nextFree_line : (s.nextFree).line = s.line := rfl
@[simp] theorem State.nextFree_roster : (s.nextFree).roster = s.roster := rfl
@[simp] theorem State.nextFree_disc : (s.nextFree).disc = s.disc := rfl
@[simp] theorem State.nextFree_sched : (s.nextFree).sched = s.sched := rfl
@[simp] theorem State.nextFree_req : (s.nextFree).req = s.req := rfl
@[simp] theorem State.nextFree_host : (s.nextFree).host = s.host := rfl
@[simp] theorem State.nextFree_dataBus : (s.nextFree).dataBus = s.dataBus := rfl
@[simp] theorem State.nextFree_freeIndex : (s.nextFree).freeIndex = s.freeIndex + 1 := rfl
@[simp] theorem State.nextFree_pending : (s.nextFree).pending = s.pending := rfl

/-! ### setSticky -/

@[simp] theorem State.setSticky_run (f : Sticky) : (s.setSticky f).run = s.run := rfl
@[simp] theorem State.setSticky_timer (f : Sticky) : (s.setSticky f).timer = s.timer := rfl
@[simp] theorem State.setSticky_line (f : Sticky) : (s.setSticky f).line = s.line := rfl
@[simp] theorem State.setSticky_roster (f : Sticky) : (s.setSticky f).roster = s.roster := rfl
@[simp] theorem State.setSticky_disc (f : Sticky) : (s.setSticky f).disc = s.disc := rfl
@[simp] theorem State.setSticky_sched (f : Sticky) : (s.setSticky f).sched = s.sched := rfl
@[simp] theorem State.setSticky_req (f : Sticky) : (s.setSticky f).req = s.req := rfl
@[simp] theorem State.setSticky_host (f : Sticky) : (s.setSticky f).host = { s.host with sticky := f } := rfl
@[simp] theorem State.setSticky_dataBus (f : Sticky) : (s.setSticky f).dataBus = s.dataBus := rfl
@[simp] theorem State.setSticky_freeIndex (f : Sticky) : (s.setSticky f).freeIndex = s.freeIndex := rfl
@[simp] theorem State.setSticky_pending (f : Sticky) : (s.setSticky f).pending = s.pending := rfl

/-! ### setRecord -/

@[simp] theorem State.setRecord_run (r : Option Record) : (s.setRecord r).run = s.run := rfl
@[simp] theorem State.setRecord_timer (r : Option Record) : (s.setRecord r).timer = s.timer := rfl
@[simp] theorem State.setRecord_line (r : Option Record) : (s.setRecord r).line = { s.line with record := r } := rfl
@[simp] theorem State.setRecord_roster (r : Option Record) : (s.setRecord r).roster = s.roster := rfl
@[simp] theorem State.setRecord_disc (r : Option Record) : (s.setRecord r).disc = s.disc := rfl
@[simp] theorem State.setRecord_sched (r : Option Record) : (s.setRecord r).sched = s.sched := rfl
@[simp] theorem State.setRecord_req (r : Option Record) : (s.setRecord r).req = s.req := rfl
@[simp] theorem State.setRecord_host (r : Option Record) : (s.setRecord r).host = s.host := rfl
@[simp] theorem State.setRecord_dataBus (r : Option Record) : (s.setRecord r).dataBus = s.dataBus := rfl
@[simp] theorem State.setRecord_freeIndex (r : Option Record) : (s.setRecord r).freeIndex = s.freeIndex := rfl
@[simp] theorem State.setRecord_pending (r : Option Record) : (s.setRecord r).pending = s.pending := rfl

/-! ### setSchedClaim -/

@[simp] theorem State.setSchedClaim_run (c : Option Claim) : (s.setSchedClaim c).run = s.run := rfl
@[simp] theorem State.setSchedClaim_timer (c : Option Claim) : (s.setSchedClaim c).timer = s.timer := rfl
@[simp] theorem State.setSchedClaim_line (c : Option Claim) :
    (s.setSchedClaim c).line = { s.line with schedClaim := c } := rfl
@[simp] theorem State.setSchedClaim_roster (c : Option Claim) : (s.setSchedClaim c).roster = s.roster := rfl
@[simp] theorem State.setSchedClaim_disc (c : Option Claim) : (s.setSchedClaim c).disc = s.disc := rfl
@[simp] theorem State.setSchedClaim_sched (c : Option Claim) : (s.setSchedClaim c).sched = s.sched := rfl
@[simp] theorem State.setSchedClaim_req (c : Option Claim) : (s.setSchedClaim c).req = s.req := rfl
@[simp] theorem State.setSchedClaim_host (c : Option Claim) : (s.setSchedClaim c).host = s.host := rfl
@[simp] theorem State.setSchedClaim_dataBus (c : Option Claim) : (s.setSchedClaim c).dataBus = s.dataBus := rfl
@[simp] theorem State.setSchedClaim_freeIndex (c : Option Claim) : (s.setSchedClaim c).freeIndex = s.freeIndex := rfl
@[simp] theorem State.setSchedClaim_pending (c : Option Claim) : (s.setSchedClaim c).pending = s.pending := rfl

/-! ### setReqClaim -/

@[simp] theorem State.setReqClaim_run (c : Option Claim) : (s.setReqClaim c).run = s.run := rfl
@[simp] theorem State.setReqClaim_timer (c : Option Claim) : (s.setReqClaim c).timer = s.timer := rfl
@[simp] theorem State.setReqClaim_line (c : Option Claim) :
    (s.setReqClaim c).line = { s.line with reqClaim := c } := rfl
@[simp] theorem State.setReqClaim_roster (c : Option Claim) : (s.setReqClaim c).roster = s.roster := rfl
@[simp] theorem State.setReqClaim_disc (c : Option Claim) : (s.setReqClaim c).disc = s.disc := rfl
@[simp] theorem State.setReqClaim_sched (c : Option Claim) : (s.setReqClaim c).sched = s.sched := rfl
@[simp] theorem State.setReqClaim_req (c : Option Claim) : (s.setReqClaim c).req = s.req := rfl
@[simp] theorem State.setReqClaim_host (c : Option Claim) : (s.setReqClaim c).host = s.host := rfl
@[simp] theorem State.setReqClaim_dataBus (c : Option Claim) : (s.setReqClaim c).dataBus = s.dataBus := rfl
@[simp] theorem State.setReqClaim_freeIndex (c : Option Claim) : (s.setReqClaim c).freeIndex = s.freeIndex := rfl
@[simp] theorem State.setReqClaim_pending (c : Option Claim) : (s.setReqClaim c).pending = s.pending := rfl

/-! ### setRoundClaim -/

@[simp] theorem State.setRoundClaim_run (b : Bool) : (s.setRoundClaim b).run = s.run := rfl
@[simp] theorem State.setRoundClaim_timer (b : Bool) : (s.setRoundClaim b).timer = s.timer := rfl
@[simp] theorem State.setRoundClaim_line (b : Bool) :
    (s.setRoundClaim b).line = { s.line with roundClaim := b } := rfl
@[simp] theorem State.setRoundClaim_roster (b : Bool) : (s.setRoundClaim b).roster = s.roster := rfl
@[simp] theorem State.setRoundClaim_disc (b : Bool) : (s.setRoundClaim b).disc = s.disc := rfl
@[simp] theorem State.setRoundClaim_sched (b : Bool) : (s.setRoundClaim b).sched = s.sched := rfl
@[simp] theorem State.setRoundClaim_req (b : Bool) : (s.setRoundClaim b).req = s.req := rfl
@[simp] theorem State.setRoundClaim_host (b : Bool) : (s.setRoundClaim b).host = s.host := rfl
@[simp] theorem State.setRoundClaim_dataBus (b : Bool) : (s.setRoundClaim b).dataBus = s.dataBus := rfl
@[simp] theorem State.setRoundClaim_freeIndex (b : Bool) : (s.setRoundClaim b).freeIndex = s.freeIndex := rfl
@[simp] theorem State.setRoundClaim_pending (b : Bool) : (s.setRoundClaim b).pending = s.pending := rfl

/-! ### setBeaconPending -/

@[simp] theorem State.setBeaconPending_run (b : Bool) : (s.setBeaconPending b).run = s.run := rfl
@[simp] theorem State.setBeaconPending_timer (b : Bool) : (s.setBeaconPending b).timer = s.timer := rfl
@[simp] theorem State.setBeaconPending_line (b : Bool) :
    (s.setBeaconPending b).line = { s.line with beaconPending := b } := rfl
@[simp] theorem State.setBeaconPending_roster (b : Bool) : (s.setBeaconPending b).roster = s.roster := rfl
@[simp] theorem State.setBeaconPending_disc (b : Bool) : (s.setBeaconPending b).disc = s.disc := rfl
@[simp] theorem State.setBeaconPending_sched (b : Bool) : (s.setBeaconPending b).sched = s.sched := rfl
@[simp] theorem State.setBeaconPending_req (b : Bool) : (s.setBeaconPending b).req = s.req := rfl
@[simp] theorem State.setBeaconPending_host (b : Bool) : (s.setBeaconPending b).host = s.host := rfl
@[simp] theorem State.setBeaconPending_dataBus (b : Bool) : (s.setBeaconPending b).dataBus = s.dataBus := rfl
@[simp] theorem State.setBeaconPending_freeIndex (b : Bool) : (s.setBeaconPending b).freeIndex = s.freeIndex := rfl
@[simp] theorem State.setBeaconPending_pending (b : Bool) : (s.setBeaconPending b).pending = s.pending := rfl

/-! ### setEchoCount -/

@[simp] theorem State.setEchoCount_run (n : Nat) : (s.setEchoCount n).run = s.run := rfl
@[simp] theorem State.setEchoCount_timer (n : Nat) : (s.setEchoCount n).timer = s.timer := rfl
@[simp] theorem State.setEchoCount_line (n : Nat) : (s.setEchoCount n).line = { s.line with echoCount := n } := rfl
@[simp] theorem State.setEchoCount_roster (n : Nat) : (s.setEchoCount n).roster = s.roster := rfl
@[simp] theorem State.setEchoCount_disc (n : Nat) : (s.setEchoCount n).disc = s.disc := rfl
@[simp] theorem State.setEchoCount_sched (n : Nat) : (s.setEchoCount n).sched = s.sched := rfl
@[simp] theorem State.setEchoCount_req (n : Nat) : (s.setEchoCount n).req = s.req := rfl
@[simp] theorem State.setEchoCount_host (n : Nat) : (s.setEchoCount n).host = s.host := rfl
@[simp] theorem State.setEchoCount_dataBus (n : Nat) : (s.setEchoCount n).dataBus = s.dataBus := rfl
@[simp] theorem State.setEchoCount_freeIndex (n : Nat) : (s.setEchoCount n).freeIndex = s.freeIndex := rfl
@[simp] theorem State.setEchoCount_pending (n : Nat) : (s.setEchoCount n).pending = s.pending := rfl

/-! ### setBoundary -/

@[simp] theorem State.setBoundary_run (b : Bool) : (s.setBoundary b).run = s.run := rfl
@[simp] theorem State.setBoundary_timer (b : Bool) : (s.setBoundary b).timer = s.timer := rfl
@[simp] theorem State.setBoundary_line (b : Bool) : (s.setBoundary b).line = { s.line with boundary := b } := rfl
@[simp] theorem State.setBoundary_roster (b : Bool) : (s.setBoundary b).roster = s.roster := rfl
@[simp] theorem State.setBoundary_disc (b : Bool) : (s.setBoundary b).disc = s.disc := rfl
@[simp] theorem State.setBoundary_sched (b : Bool) : (s.setBoundary b).sched = s.sched := rfl
@[simp] theorem State.setBoundary_req (b : Bool) : (s.setBoundary b).req = s.req := rfl
@[simp] theorem State.setBoundary_host (b : Bool) : (s.setBoundary b).host = s.host := rfl
@[simp] theorem State.setBoundary_dataBus (b : Bool) : (s.setBoundary b).dataBus = s.dataBus := rfl
@[simp] theorem State.setBoundary_freeIndex (b : Bool) : (s.setBoundary b).freeIndex = s.freeIndex := rfl
@[simp] theorem State.setBoundary_pending (b : Bool) : (s.setBoundary b).pending = s.pending := rfl

/-! ### setLastGrant -/

@[simp] theorem State.setLastGrant_run (o : OpenOwner) : (s.setLastGrant o).run = s.run := rfl
@[simp] theorem State.setLastGrant_timer (o : OpenOwner) : (s.setLastGrant o).timer = s.timer := rfl
@[simp] theorem State.setLastGrant_line (o : OpenOwner) :
    (s.setLastGrant o).line = { s.line with lastGrant := o } := rfl
@[simp] theorem State.setLastGrant_roster (o : OpenOwner) : (s.setLastGrant o).roster = s.roster := rfl
@[simp] theorem State.setLastGrant_disc (o : OpenOwner) : (s.setLastGrant o).disc = s.disc := rfl
@[simp] theorem State.setLastGrant_sched (o : OpenOwner) : (s.setLastGrant o).sched = s.sched := rfl
@[simp] theorem State.setLastGrant_req (o : OpenOwner) : (s.setLastGrant o).req = s.req := rfl
@[simp] theorem State.setLastGrant_host (o : OpenOwner) : (s.setLastGrant o).host = s.host := rfl
@[simp] theorem State.setLastGrant_dataBus (o : OpenOwner) : (s.setLastGrant o).dataBus = s.dataBus := rfl
@[simp] theorem State.setLastGrant_freeIndex (o : OpenOwner) : (s.setLastGrant o).freeIndex = s.freeIndex := rfl
@[simp] theorem State.setLastGrant_pending (o : OpenOwner) : (s.setLastGrant o).pending = s.pending := rfl

/-! ### setRunState -/

@[simp] theorem State.setRunState_run (x : RunState) : (s.setRunState x).run = { s.run with state := x } := rfl
@[simp] theorem State.setRunState_timer (x : RunState) : (s.setRunState x).timer = s.timer := rfl
@[simp] theorem State.setRunState_line (x : RunState) : (s.setRunState x).line = s.line := rfl
@[simp] theorem State.setRunState_roster (x : RunState) : (s.setRunState x).roster = s.roster := rfl
@[simp] theorem State.setRunState_disc (x : RunState) : (s.setRunState x).disc = s.disc := rfl
@[simp] theorem State.setRunState_sched (x : RunState) : (s.setRunState x).sched = s.sched := rfl
@[simp] theorem State.setRunState_req (x : RunState) : (s.setRunState x).req = s.req := rfl
@[simp] theorem State.setRunState_host (x : RunState) : (s.setRunState x).host = s.host := rfl
@[simp] theorem State.setRunState_dataBus (x : RunState) : (s.setRunState x).dataBus = s.dataBus := rfl
@[simp] theorem State.setRunState_freeIndex (x : RunState) : (s.setRunState x).freeIndex = s.freeIndex := rfl
@[simp] theorem State.setRunState_pending (x : RunState) : (s.setRunState x).pending = s.pending := rfl

/-! ### setTimer -/

@[simp] theorem State.setTimer_run (t : CycleTimer) : (s.setTimer t).run = s.run := rfl
@[simp] theorem State.setTimer_timer (t : CycleTimer) : (s.setTimer t).timer = t := rfl
@[simp] theorem State.setTimer_line (t : CycleTimer) : (s.setTimer t).line = s.line := rfl
@[simp] theorem State.setTimer_roster (t : CycleTimer) : (s.setTimer t).roster = s.roster := rfl
@[simp] theorem State.setTimer_disc (t : CycleTimer) : (s.setTimer t).disc = s.disc := rfl
@[simp] theorem State.setTimer_sched (t : CycleTimer) : (s.setTimer t).sched = s.sched := rfl
@[simp] theorem State.setTimer_req (t : CycleTimer) : (s.setTimer t).req = s.req := rfl
@[simp] theorem State.setTimer_host (t : CycleTimer) : (s.setTimer t).host = s.host := rfl
@[simp] theorem State.setTimer_dataBus (t : CycleTimer) : (s.setTimer t).dataBus = s.dataBus := rfl
@[simp] theorem State.setTimer_freeIndex (t : CycleTimer) : (s.setTimer t).freeIndex = s.freeIndex := rfl
@[simp] theorem State.setTimer_pending (t : CycleTimer) : (s.setTimer t).pending = s.pending := rfl

/-! ### setRoster -/

@[simp] theorem State.setRoster_run (r : Roster) : (s.setRoster r).run = s.run := rfl
@[simp] theorem State.setRoster_timer (r : Roster) : (s.setRoster r).timer = s.timer := rfl
@[simp] theorem State.setRoster_line (r : Roster) : (s.setRoster r).line = s.line := rfl
@[simp] theorem State.setRoster_roster (r : Roster) : (s.setRoster r).roster = r := rfl
@[simp] theorem State.setRoster_disc (r : Roster) : (s.setRoster r).disc = s.disc := rfl
@[simp] theorem State.setRoster_sched (r : Roster) : (s.setRoster r).sched = s.sched := rfl
@[simp] theorem State.setRoster_req (r : Roster) : (s.setRoster r).req = s.req := rfl
@[simp] theorem State.setRoster_host (r : Roster) : (s.setRoster r).host = s.host := rfl
@[simp] theorem State.setRoster_dataBus (r : Roster) : (s.setRoster r).dataBus = s.dataBus := rfl
@[simp] theorem State.setRoster_freeIndex (r : Roster) : (s.setRoster r).freeIndex = s.freeIndex := rfl
@[simp] theorem State.setRoster_pending (r : Roster) : (s.setRoster r).pending = s.pending := rfl

/-! ### setDisc -/

@[simp] theorem State.setDisc_run (d : Discovery) : (s.setDisc d).run = s.run := rfl
@[simp] theorem State.setDisc_timer (d : Discovery) : (s.setDisc d).timer = s.timer := rfl
@[simp] theorem State.setDisc_line (d : Discovery) : (s.setDisc d).line = s.line := rfl
@[simp] theorem State.setDisc_roster (d : Discovery) : (s.setDisc d).roster = s.roster := rfl
@[simp] theorem State.setDisc_disc (d : Discovery) : (s.setDisc d).disc = d := rfl
@[simp] theorem State.setDisc_sched (d : Discovery) : (s.setDisc d).sched = s.sched := rfl
@[simp] theorem State.setDisc_req (d : Discovery) : (s.setDisc d).req = s.req := rfl
@[simp] theorem State.setDisc_host (d : Discovery) : (s.setDisc d).host = s.host := rfl
@[simp] theorem State.setDisc_dataBus (d : Discovery) : (s.setDisc d).dataBus = s.dataBus := rfl
@[simp] theorem State.setDisc_freeIndex (d : Discovery) : (s.setDisc d).freeIndex = s.freeIndex := rfl
@[simp] theorem State.setDisc_pending (d : Discovery) : (s.setDisc d).pending = s.pending := rfl

/-! ### setEntry -/

@[simp] theorem State.setEntry_run (n : Nat) (e : SchedEntry) : (s.setEntry n e).run = s.run := rfl
@[simp] theorem State.setEntry_timer (n : Nat) (e : SchedEntry) : (s.setEntry n e).timer = s.timer := rfl
@[simp] theorem State.setEntry_line (n : Nat) (e : SchedEntry) : (s.setEntry n e).line = s.line := rfl
@[simp] theorem State.setEntry_roster (n : Nat) (e : SchedEntry) : (s.setEntry n e).roster = s.roster := rfl
@[simp] theorem State.setEntry_disc (n : Nat) (e : SchedEntry) : (s.setEntry n e).disc = s.disc := rfl
@[simp] theorem State.setEntry_sched (n : Nat) (e : SchedEntry) :
    (s.setEntry n e).sched = { s.sched with entries := s.sched.entries.set n e } := rfl
@[simp] theorem State.setEntry_req (n : Nat) (e : SchedEntry) : (s.setEntry n e).req = s.req := rfl
@[simp] theorem State.setEntry_host (n : Nat) (e : SchedEntry) : (s.setEntry n e).host = s.host := rfl
@[simp] theorem State.setEntry_dataBus (n : Nat) (e : SchedEntry) : (s.setEntry n e).dataBus = s.dataBus := rfl
@[simp] theorem State.setEntry_freeIndex (n : Nat) (e : SchedEntry) : (s.setEntry n e).freeIndex = s.freeIndex := rfl
@[simp] theorem State.setEntry_pending (n : Nat) (e : SchedEntry) : (s.setEntry n e).pending = s.pending := rfl

/-! ### updateEntries -/

@[simp] theorem State.updateEntries_run (f : Nat → SchedEntry → SchedEntry) : (s.updateEntries f).run = s.run := rfl
@[simp] theorem State.updateEntries_timer (f : Nat → SchedEntry → SchedEntry) :
    (s.updateEntries f).timer = s.timer := rfl
@[simp] theorem State.updateEntries_line (f : Nat → SchedEntry → SchedEntry) :
    (s.updateEntries f).line = s.line := rfl
@[simp] theorem State.updateEntries_roster (f : Nat → SchedEntry → SchedEntry) :
    (s.updateEntries f).roster = s.roster := rfl
@[simp] theorem State.updateEntries_disc (f : Nat → SchedEntry → SchedEntry) :
    (s.updateEntries f).disc = s.disc := rfl
@[simp] theorem State.updateEntries_sched (f : Nat → SchedEntry → SchedEntry) :
    (s.updateEntries f).sched = { s.sched with entries := s.sched.entries.update f } := rfl
@[simp] theorem State.updateEntries_req (f : Nat → SchedEntry → SchedEntry) : (s.updateEntries f).req = s.req := rfl
@[simp] theorem State.updateEntries_host (f : Nat → SchedEntry → SchedEntry) :
    (s.updateEntries f).host = s.host := rfl
@[simp] theorem State.updateEntries_dataBus (f : Nat → SchedEntry → SchedEntry) :
    (s.updateEntries f).dataBus = s.dataBus := rfl
@[simp] theorem State.updateEntries_freeIndex (f : Nat → SchedEntry → SchedEntry) :
    (s.updateEntries f).freeIndex = s.freeIndex := rfl
@[simp] theorem State.updateEntries_pending (f : Nat → SchedEntry → SchedEntry) :
    (s.updateEntries f).pending = s.pending := rfl

/-! ### setMailbox -/

@[simp] theorem State.setMailbox_run (n : Nat) (m : Mailbox) : (s.setMailbox n m).run = s.run := rfl
@[simp] theorem State.setMailbox_timer (n : Nat) (m : Mailbox) : (s.setMailbox n m).timer = s.timer := rfl
@[simp] theorem State.setMailbox_line (n : Nat) (m : Mailbox) : (s.setMailbox n m).line = s.line := rfl
@[simp] theorem State.setMailbox_roster (n : Nat) (m : Mailbox) : (s.setMailbox n m).roster = s.roster := rfl
@[simp] theorem State.setMailbox_disc (n : Nat) (m : Mailbox) : (s.setMailbox n m).disc = s.disc := rfl
@[simp] theorem State.setMailbox_sched (n : Nat) (m : Mailbox) :
    (s.setMailbox n m).sched = { s.sched with mailboxes := s.sched.mailboxes.set n m } := rfl
@[simp] theorem State.setMailbox_req (n : Nat) (m : Mailbox) : (s.setMailbox n m).req = s.req := rfl
@[simp] theorem State.setMailbox_host (n : Nat) (m : Mailbox) : (s.setMailbox n m).host = s.host := rfl
@[simp] theorem State.setMailbox_dataBus (n : Nat) (m : Mailbox) : (s.setMailbox n m).dataBus = s.dataBus := rfl
@[simp] theorem State.setMailbox_freeIndex (n : Nat) (m : Mailbox) : (s.setMailbox n m).freeIndex = s.freeIndex := rfl
@[simp] theorem State.setMailbox_pending (n : Nat) (m : Mailbox) : (s.setMailbox n m).pending = s.pending := rfl

/-! ### setSnap -/

@[simp] theorem State.setSnap_run (ws : List Word) : (s.setSnap ws).run = s.run := rfl
@[simp] theorem State.setSnap_timer (ws : List Word) : (s.setSnap ws).timer = s.timer := rfl
@[simp] theorem State.setSnap_line (ws : List Word) : (s.setSnap ws).line = s.line := rfl
@[simp] theorem State.setSnap_roster (ws : List Word) : (s.setSnap ws).roster = s.roster := rfl
@[simp] theorem State.setSnap_disc (ws : List Word) : (s.setSnap ws).disc = s.disc := rfl
@[simp] theorem State.setSnap_sched (ws : List Word) : (s.setSnap ws).sched = s.sched := rfl
@[simp] theorem State.setSnap_req (ws : List Word) : (s.setSnap ws).req = s.req := rfl
@[simp] theorem State.setSnap_host (ws : List Word) :
    (s.setSnap ws).host = { s.host with snap := wordTable 12 ws } := rfl
@[simp] theorem State.setSnap_dataBus (ws : List Word) : (s.setSnap ws).dataBus = s.dataBus := rfl
@[simp] theorem State.setSnap_freeIndex (ws : List Word) : (s.setSnap ws).freeIndex = s.freeIndex := rfl
@[simp] theorem State.setSnap_pending (ws : List Word) : (s.setSnap ws).pending = s.pending := rfl

/-! ### setHead -/

@[simp] theorem State.setHead_run (h : HeadCondition) : (s.setHead h).run = s.run := rfl
@[simp] theorem State.setHead_timer (h : HeadCondition) : (s.setHead h).timer = s.timer := rfl
@[simp] theorem State.setHead_line (h : HeadCondition) : (s.setHead h).line = s.line := rfl
@[simp] theorem State.setHead_roster (h : HeadCondition) : (s.setHead h).roster = s.roster := rfl
@[simp] theorem State.setHead_disc (h : HeadCondition) : (s.setHead h).disc = s.disc := rfl
@[simp] theorem State.setHead_sched (h : HeadCondition) : (s.setHead h).sched = s.sched := rfl
@[simp] theorem State.setHead_req (h : HeadCondition) : (s.setHead h).req = { s.req with head := h } := rfl
@[simp] theorem State.setHead_host (h : HeadCondition) : (s.setHead h).host = s.host := rfl
@[simp] theorem State.setHead_dataBus (h : HeadCondition) : (s.setHead h).dataBus = s.dataBus := rfl
@[simp] theorem State.setHead_freeIndex (h : HeadCondition) : (s.setHead h).freeIndex = s.freeIndex := rfl
@[simp] theorem State.setHead_pending (h : HeadCondition) : (s.setHead h).pending = s.pending := rfl

/-! ### setReservations -/

@[simp] theorem State.setReservations_run (n : Nat) : (s.setReservations n).run = s.run := rfl
@[simp] theorem State.setReservations_timer (n : Nat) : (s.setReservations n).timer = s.timer := rfl
@[simp] theorem State.setReservations_line (n : Nat) : (s.setReservations n).line = s.line := rfl
@[simp] theorem State.setReservations_roster (n : Nat) : (s.setReservations n).roster = s.roster := rfl
@[simp] theorem State.setReservations_disc (n : Nat) : (s.setReservations n).disc = s.disc := rfl
@[simp] theorem State.setReservations_sched (n : Nat) : (s.setReservations n).sched = s.sched := rfl
@[simp] theorem State.setReservations_req (n : Nat) :
    (s.setReservations n).req = { s.req with reservations := n } := rfl
@[simp] theorem State.setReservations_host (n : Nat) : (s.setReservations n).host = s.host := rfl
@[simp] theorem State.setReservations_dataBus (n : Nat) : (s.setReservations n).dataBus = s.dataBus := rfl
@[simp] theorem State.setReservations_freeIndex (n : Nat) : (s.setReservations n).freeIndex = s.freeIndex := rfl
@[simp] theorem State.setReservations_pending (n : Nat) : (s.setReservations n).pending = s.pending := rfl

/-! ### setQueue -/

@[simp] theorem State.setQueue_run (q : List Request) : (s.setQueue q).run = s.run := rfl
@[simp] theorem State.setQueue_timer (q : List Request) : (s.setQueue q).timer = s.timer := rfl
@[simp] theorem State.setQueue_line (q : List Request) : (s.setQueue q).line = s.line := rfl
@[simp] theorem State.setQueue_roster (q : List Request) : (s.setQueue q).roster = s.roster := rfl
@[simp] theorem State.setQueue_disc (q : List Request) : (s.setQueue q).disc = s.disc := rfl
@[simp] theorem State.setQueue_sched (q : List Request) : (s.setQueue q).sched = s.sched := rfl
@[simp] theorem State.setQueue_req (q : List Request) : (s.setQueue q).req = { s.req with queue := q } := rfl
@[simp] theorem State.setQueue_host (q : List Request) : (s.setQueue q).host = s.host := rfl
@[simp] theorem State.setQueue_dataBus (q : List Request) : (s.setQueue q).dataBus = s.dataBus := rfl
@[simp] theorem State.setQueue_freeIndex (q : List Request) : (s.setQueue q).freeIndex = s.freeIndex := rfl
@[simp] theorem State.setQueue_pending (q : List Request) : (s.setQueue q).pending = s.pending := rfl

/-! ### writeCompletion -/

@[simp] theorem State.writeCompletion_run (c : Completion) : (s.writeCompletion c).run = s.run := rfl
@[simp] theorem State.writeCompletion_timer (c : Completion) : (s.writeCompletion c).timer = s.timer := rfl
@[simp] theorem State.writeCompletion_line (c : Completion) : (s.writeCompletion c).line = s.line := rfl
@[simp] theorem State.writeCompletion_roster (c : Completion) : (s.writeCompletion c).roster = s.roster := rfl
@[simp] theorem State.writeCompletion_disc (c : Completion) : (s.writeCompletion c).disc = s.disc := rfl
@[simp] theorem State.writeCompletion_sched (c : Completion) : (s.writeCompletion c).sched = s.sched := rfl
@[simp] theorem State.writeCompletion_req (c : Completion) :
    (s.writeCompletion c).req = { s.req with completions := s.req.completions ++ [c], reservations := s.req.reservations - 1 } := rfl
@[simp] theorem State.writeCompletion_host (c : Completion) : (s.writeCompletion c).host = s.host := rfl
@[simp] theorem State.writeCompletion_dataBus (c : Completion) : (s.writeCompletion c).dataBus = s.dataBus := rfl
@[simp] theorem State.writeCompletion_freeIndex (c : Completion) :
    (s.writeCompletion c).freeIndex = s.freeIndex := rfl
@[simp] theorem State.writeCompletion_pending (c : Completion) : (s.writeCompletion c).pending = s.pending := rfl

/-! ### setHost -/

@[simp] theorem State.setHost_run (h : HostPort) : (s.setHost h).run = s.run := rfl
@[simp] theorem State.setHost_timer (h : HostPort) : (s.setHost h).timer = s.timer := rfl
@[simp] theorem State.setHost_line (h : HostPort) : (s.setHost h).line = s.line := rfl
@[simp] theorem State.setHost_roster (h : HostPort) : (s.setHost h).roster = s.roster := rfl
@[simp] theorem State.setHost_disc (h : HostPort) : (s.setHost h).disc = s.disc := rfl
@[simp] theorem State.setHost_sched (h : HostPort) : (s.setHost h).sched = s.sched := rfl
@[simp] theorem State.setHost_req (h : HostPort) : (s.setHost h).req = s.req := rfl
@[simp] theorem State.setHost_host (h : HostPort) : (s.setHost h).host = h := rfl
@[simp] theorem State.setHost_dataBus (h : HostPort) : (s.setHost h).dataBus = s.dataBus := rfl
@[simp] theorem State.setHost_freeIndex (h : HostPort) : (s.setHost h).freeIndex = s.freeIndex := rfl
@[simp] theorem State.setHost_pending (h : HostPort) : (s.setHost h).pending = s.pending := rfl

/-! ### setDataBus -/

@[simp] theorem State.setDataBus_run (v : Word) : (s.setDataBus v).run = s.run := rfl
@[simp] theorem State.setDataBus_timer (v : Word) : (s.setDataBus v).timer = s.timer := rfl
@[simp] theorem State.setDataBus_line (v : Word) : (s.setDataBus v).line = s.line := rfl
@[simp] theorem State.setDataBus_roster (v : Word) : (s.setDataBus v).roster = s.roster := rfl
@[simp] theorem State.setDataBus_disc (v : Word) : (s.setDataBus v).disc = s.disc := rfl
@[simp] theorem State.setDataBus_sched (v : Word) : (s.setDataBus v).sched = s.sched := rfl
@[simp] theorem State.setDataBus_req (v : Word) : (s.setDataBus v).req = s.req := rfl
@[simp] theorem State.setDataBus_host (v : Word) : (s.setDataBus v).host = s.host := rfl
@[simp] theorem State.setDataBus_dataBus (v : Word) : (s.setDataBus v).dataBus = v := rfl
@[simp] theorem State.setDataBus_freeIndex (v : Word) : (s.setDataBus v).freeIndex = s.freeIndex := rfl
@[simp] theorem State.setDataBus_pending (v : Word) : (s.setDataBus v).pending = s.pending := rfl

/-! ### setPending -/

@[simp] theorem State.setPending_run (q : List Instr) : (s.setPending q).run = s.run := rfl
@[simp] theorem State.setPending_timer (q : List Instr) : (s.setPending q).timer = s.timer := rfl
@[simp] theorem State.setPending_line (q : List Instr) : (s.setPending q).line = s.line := rfl
@[simp] theorem State.setPending_roster (q : List Instr) : (s.setPending q).roster = s.roster := rfl
@[simp] theorem State.setPending_disc (q : List Instr) : (s.setPending q).disc = s.disc := rfl
@[simp] theorem State.setPending_sched (q : List Instr) : (s.setPending q).sched = s.sched := rfl
@[simp] theorem State.setPending_req (q : List Instr) : (s.setPending q).req = s.req := rfl
@[simp] theorem State.setPending_host (q : List Instr) : (s.setPending q).host = s.host := rfl
@[simp] theorem State.setPending_dataBus (q : List Instr) : (s.setPending q).dataBus = s.dataBus := rfl
@[simp] theorem State.setPending_freeIndex (q : List Instr) : (s.setPending q).freeIndex = s.freeIndex := rfl
@[simp] theorem State.setPending_pending (q : List Instr) : (s.setPending q).pending = q := rfl

end Sys2Proof.Machine
end

