-- ==== Sys2Proof/Laws/Commands.lean ====
section
/-! SUPPORT. The command mechanism, a bus write, an event of the line: what each does, once and for all. -/

namespace Sys2Proof.Machine

open Sys2Proof

variable {s : State}

/-- A command that is accepted reaches its owner with the code stored (R171). -/
theorem State.command_accepted (h : s.accepts) (code : Word) (owner : State → State) :
    s.command code owner = owner (s.setCmd code) := by
  simp [State.command, h.1, h.2]

/-- In INIT a command is refused NOT_READY (R153). -/
theorem State.command_init (h : s.run.resetAsserted = false) (hi : s.run.state = .init) (code : Word)
    (owner : State → State) : s.command code owner = s.setResult .notReady 0 := by
  simp [State.command, h, hi]

/-- While RESET# is asserted a command is ignored (R151). -/
theorem State.command_held (h : s.run.resetAsserted = true) (code : Word) (owner : State → State) :
    s.command code owner = s := by
  simp [State.command, h]

/-- A bus write that is taken stores (R164). -/
theorem State.busWrite_accepted (h : s.accepts) (store : State → State) : s.busWrite store = store s := by
  simp [State.busWrite, h.1, h.2]

/-- While RESET# is asserted and during INIT a bus write is ignored (R151, R153). -/
theorem State.busWrite_held (h : s.run.resetAsserted = true ∨ s.run.state = .init) (store : State → State) :
    s.busWrite store = s := by
  rcases h with h | h <;> simp [State.busWrite, h]

theorem State.onRecord_some {r : Record} {may : Record → Bool} {event : Record → State} (h : s.line.record = some r)
    (hm : may r = true) : s.onRecord may event = event r := by
  simp [State.onRecord, h, hm]

theorem State.onRecord_none {may : Record → Bool} {event : Record → State}
    (h : ∀ r, s.line.record = some r → may r = false) : s.onRecord may event = s := by
  unfold State.onRecord
  split
  · next r hr => simp [h r hr]
  · rfl

/-- The codes that name a command are those of the command table (section 12.3). -/
theorem commandCodes_eq : commandTable.map Prod.fst = commandCodes := rfl

/-- A code outside the command table is refused UNKNOWN_COMMAND by the Host Port (R172). -/
theorem commandTable_lookup_unknown {n : Nat} (h : commandCodes.contains n = false) : commandTable.lookup n = none := by
  rw [← commandCodes_eq] at h
  generalize commandTable = t at h
  induction t with
  | nil => rfl
  | cons p t ih =>
    obtain ⟨k, f⟩ := p
    simp only [List.map_cons, List.contains_cons, Bool.or_eq_false_iff] at h
    simp [List.lookup, h.1, ih h.2]

end Sys2Proof.Machine
end

