-- ==== Sys2Proof/Laws/Requests.lean ====
section
/-! SUPPORT. The Request Engine: what taking up the head can do, and when it does nothing. -/

namespace Sys2Proof.Machine

open Sys2Proof

/-- Taking up heads touches the claims of the open window, the unit and the engine alone; requests leave the queue from its
head, completions are appended (R136, R137, R144). -/
theorem State.takeUpFuel_frame (n : Nat) (s : State) :
    s.takeUpFuel n = { s with
      line := { s.line with
        reqClaim := (s.takeUpFuel n).line.reqClaim, roundClaim := (s.takeUpFuel n).line.roundClaim }
      disc := (s.takeUpFuel n).disc
      req := (s.takeUpFuel n).req } ∧
    (s.takeUpFuel n).req.queue <:+ s.req.queue ∧ s.req.completions <+: (s.takeUpFuel n).req.completions := by
  induction n generalizing s with
  | zero => exact ⟨rfl, List.suffix_refl _, List.prefix_refl _⟩
  | succ n ih =>
    unfold State.takeUpFuel
    split
    · exact ⟨rfl, List.suffix_refl _, List.prefix_refl _⟩
    · next q rest hq =>
      split
      · dsimp only
        split
        · next o _ =>
          obtain ⟨h1, h2, h3⟩ := ih ((s.setReservations (s.req.reservations + 1)).completeHead o 0 {})
          simp only [State.completeHead, State.setReservations_req, hq] at h1 h2 h3 ⊢
          exact ⟨by rw [h1]; rfl, h2.trans (List.suffix_cons _ _), (List.prefix_append _ _).trans h3⟩
        · obtain ⟨h1, h2, h3⟩ := ih (((s.setReservations (s.req.reservations + 1)).setQueue rest).acceptSweep q.tag)
          rw [hq]
          simp only [State.acceptSweep, State.placeRound] at h1 h2 h3 ⊢
          split at h1
          · next hw =>
            rw [if_pos hw] at h2 h3 ⊢
            exact ⟨by rw [h1]; rfl, h2.trans (List.suffix_cons _ _), h3⟩
          · next hw =>
            rw [if_neg hw] at h2 h3 ⊢
            exact ⟨by rw [h1]; rfl, h2.trans (List.suffix_cons _ _), (List.prefix_append _ _).trans h3⟩
        · exact ⟨rfl, List.suffix_refl _, List.prefix_refl _⟩
      · exact ⟨rfl, List.suffix_refl _, List.prefix_refl _⟩

theorem State.takeUp_frame (s : State) :
    s.takeUp = { s with
      line := { s.line with reqClaim := s.takeUp.line.reqClaim, roundClaim := s.takeUp.line.roundClaim }
      disc := s.takeUp.disc
      req := s.takeUp.req } ∧
    s.takeUp.req.queue <:+ s.req.queue ∧ s.req.completions <+: s.takeUp.req.completions :=
  s.takeUpFuel_frame _

variable (s : State)

/-- Nothing is taken up from an empty queue. -/
theorem State.takeUp_empty (h : s.req.queue = []) : s.takeUp = s := by
  simp [State.takeUp, h, State.takeUpFuel]

/-- Nothing is taken up outside RUNNING, over a head that is taken up already, or without room (R136). -/
theorem State.takeUp_not (h : s.mayTakeUp = false) : s.takeUp = s := by
  unfold State.takeUp
  cases hq : s.req.queue with
  | nil => rfl
  | cons q rest => simp [State.takeUpFuel, hq, h]

/-- A head that passes the head checks is CLAIMED (R137, R138). -/
theorem State.takeUp_claim {q : Request} {rest : List Request} (hq : s.req.queue = q :: rest) (hm : s.mayTakeUp = true)
    (hk : q.kind ≠ .discover) (ht : q.targetPasses s.roster = true) (hl : s.tooLong q = false) :
    s.takeUp = { s with
      line := { s.line with reqClaim := some (q.claim 1 s.roster) }
      req := { s.req with head := .claimed, reservations := s.req.reservations + 1 } } := by
  have hl' : (s.setReservations (s.req.reservations + 1)).tooLong q = false := hl
  simp only [State.takeUp, hq, List.length_cons, State.takeUpFuel, hm, if_true, State.headCourse, State.setReservations_roster,
    ht, hl', hk]
  simp [hq, State.setReqClaim, State.setHead, State.setReservations]

@[simp] theorem State.takeUp_run : s.takeUp.run = s.run := by rw [s.takeUp_frame.1]
@[simp] theorem State.takeUp_timer : s.takeUp.timer = s.timer := by rw [s.takeUp_frame.1]
@[simp] theorem State.takeUp_roster : s.takeUp.roster = s.roster := by rw [s.takeUp_frame.1]
@[simp] theorem State.takeUp_sched : s.takeUp.sched = s.sched := by rw [s.takeUp_frame.1]
@[simp] theorem State.takeUp_host : s.takeUp.host = s.host := by rw [s.takeUp_frame.1]
@[simp] theorem State.takeUp_dataBus : s.takeUp.dataBus = s.dataBus := by rw [s.takeUp_frame.1]
@[simp] theorem State.takeUp_freeIndex : s.takeUp.freeIndex = s.freeIndex := by rw [s.takeUp_frame.1]
@[simp] theorem State.takeUp_pending : s.takeUp.pending = s.pending := by rw [s.takeUp_frame.1]
@[simp] theorem State.takeUp_line_record : s.takeUp.line.record = s.line.record := by rw [s.takeUp_frame.1]
@[simp] theorem State.takeUp_line_schedClaim : s.takeUp.line.schedClaim = s.line.schedClaim := by rw [s.takeUp_frame.1]
@[simp] theorem State.takeUp_line_beaconPending : s.takeUp.line.beaconPending = s.line.beaconPending := by
  rw [s.takeUp_frame.1]
@[simp] theorem State.takeUp_line_lastGrant : s.takeUp.line.lastGrant = s.line.lastGrant := by rw [s.takeUp_frame.1]
@[simp] theorem State.takeUp_line_idleRun : s.takeUp.line.idleRun = s.line.idleRun := by rw [s.takeUp_frame.1]
@[simp] theorem State.takeUp_line_echoCount : s.takeUp.line.echoCount = s.line.echoCount := by rw [s.takeUp_frame.1]
@[simp] theorem State.takeUp_line_lineErrors : s.takeUp.line.lineErrors = s.line.lineErrors := by rw [s.takeUp_frame.1]
@[simp] theorem State.takeUp_line_boundary : s.takeUp.line.boundary = s.line.boundary := by rw [s.takeUp_frame.1]

end Sys2Proof.Machine
end

