-- ==== Sys2Proof/Laws/Tables.lean ====
section
/-! SUPPORT. Reading a fixed-size table after filling it, replacing one record, and replacing every record. -/

namespace Sys2Proof

variable {α : Type} {n : Nat}

theorem Table.ext_cells {s t : Table α n} (h : s.cells = t.cells) : s = t := by
  cases s; cases t; cases h; rfl

@[simp] theorem Table.get_set_self (t : Table α n) {i : Nat} (h : i < n) (a d : α) : (t.set i a).get i d = a := by
  have : i < t.cells.length := by rw [t.size]; exact h
  simp [Table.get, Table.set, List.getD_eq_getElem?_getD, this]

@[simp] theorem Table.get_set_ne (t : Table α n) {i j : Nat} (h : i ≠ j) (a d : α) : (t.set i a).get j d = t.get j d := by
  simp [Table.get, Table.set, List.getD_eq_getElem?_getD, List.getElem?_set_ne h]

theorem Table.get_out (t : Table α n) {i : Nat} (h : n ≤ i) (d : α) : t.get i d = d := by
  have : t.cells.length ≤ i := by rw [t.size]; exact h
  simp [Table.get, List.getD_eq_getElem?_getD, this]

theorem Table.set_out (t : Table α n) {i : Nat} (h : n ≤ i) (a : α) : t.set i a = t :=
  Table.ext_cells (by simp only [Table.set]; exact List.set_eq_of_length_le (by rw [t.size]; exact h))

@[simp] theorem Table.get_fill (a : α) (i : Nat) : (Table.fill n a).get i a = a := by
  simp only [Table.get, Table.fill, List.getD_eq_getElem?_getD, List.getElem?_replicate]
  split <;> rfl

theorem Table.get_update (t : Table α n) (f : Nat → α → α) {i : Nat} (h : i < n) (d : α) :
    (t.update f).get i d = f i (t.get i d) := by
  have h' : i < t.cells.length := by rw [t.size]; exact h
  simp [Table.get, Table.update, List.getD_eq_getElem?_getD, h']

theorem Table.set_get_self (t : Table α n) {i : Nat} (h : i < n) (d : α) : t.set i (t.get i d) = t := by
  have h' : i < t.cells.length := by rw [t.size]; exact h
  exact Table.ext_cells (by simp [Table.set, Table.get, List.getD_eq_getElem?_getD, h'])

end Sys2Proof
end

