-- ==== Sys2Proof/Laws/Scheduler.lean ====
section
/-! SUPPORT. The Poll Scheduler: entries and mailboxes by number, the choice, the cycle start, the end of waiting retries. -/

namespace Sys2Proof.Machine

open Sys2Proof

variable (s : State)

/-! ### Entries and mailboxes by number -/

theorem State.entry_out {n : Nat} (h : 32 ≤ n) : s.entry n = {} := Table.get_out _ h _

theorem State.entry_setEntry_self {n : Nat} (h : n < 32) (e : SchedEntry) : (s.setEntry n e).entry n = e :=
  Table.get_set_self _ h _ _

theorem State.entry_setEntry_ne {n k : Nat} (h : k ≠ n) (e : SchedEntry) : (s.setEntry n e).entry k = s.entry k :=
  Table.get_set_ne _ (Ne.symm h) _ _

theorem State.mailbox_setMailbox_self {n : Nat} (h : n < 32) (m : Mailbox) : (s.setMailbox n m).mailbox n = m :=
  Table.get_set_self _ h _ _

theorem State.mailbox_setMailbox_ne {n k : Nat} (h : k ≠ n) (m : Mailbox) : (s.setMailbox n m).mailbox k = s.mailbox k :=
  Table.get_set_ne _ (Ne.symm h) _ _

theorem State.entry_updateEntries {n : Nat} (h : n < 32) (f : Nat → SchedEntry → SchedEntry) :
    (s.updateEntries f).entry n = f n (s.entry n) := Table.get_update _ _ h _

/-- An entry's number that is in no table leaves what is due, enabled or in flight alone. -/
theorem State.entry_lt_of_status {n : Nat} (h : (s.entry n).status ≠ .disabled) : n < 32 := by
  by_contra hn
  exact h (by rw [s.entry_out (by omega)])

theorem State.setEntry_sched_mailboxes (n : Nat) (e : SchedEntry) :
    (s.setEntry n e).sched.mailboxes = s.sched.mailboxes := rfl

/-! ### The choice (R113, R114) -/

/-- The choice touches the claim and the schedule table, and nothing else. -/
theorem State.chooseFrom_frame (ns : List Nat) (s : State) :
    State.chooseFrom ns s = { s with
      line := { s.line with schedClaim := (State.chooseFrom ns s).line.schedClaim }
      sched := { s.sched with entries := (State.chooseFrom ns s).sched.entries } } := by
  induction ns generalizing s with
  | nil => rfl
  | cons n ns ih =>
    unfold State.chooseFrom
    split
    · split
      · rfl
      · rw [ih]; rfl
    · exact ih s

theorem State.candidate_iff (n : Nat) : s.candidate n = true ↔
    (s.entry n).status = .due ∧ s.roster.issuable (s.entry n).target.toNat = true ∧
      (s.entry n).reservation s.rw ≤ s.timer.left := by
  simp [State.candidate, and_assoc]

theorem SchedEntry.skip_status (e : SchedEntry) : e.skip.status = .waiting := rfl

/-- The choice skips DUE WRITE entries that have nothing to send, and leaves the other entries (R114). -/
theorem State.chooseFrom_entry (ns : List Nat) (s : State) (k : Nat) :
    (State.chooseFrom ns s).entry k = s.entry k ∨
      ((s.entry k).status = .due ∧ (s.entry k).isWrite = true ∧ (State.chooseFrom ns s).entry k = (s.entry k).skip) := by
  induction ns generalizing s with
  | nil => exact .inl rfl
  | cons n ns ih =>
    unfold State.chooseFrom
    split
    · next hc =>
      split
      · exact .inl rfl
      · next hd =>
        have hdue := ((s.candidate_iff n).1 hc).1
        have hw : (s.entry n).isWrite = true := by
          by_contra hw
          simp [State.hasData, hw] at hd
        have hn : n < 32 := s.entry_lt_of_status (by simp [hdue])
        rcases ih (s.setEntry n (s.entry n).skip) with h | ⟨h1, h2, h3⟩
        · by_cases hk : k = n
          · subst hk
            exact .inr ⟨hdue, hw, by rw [h, s.entry_setEntry_self hn]⟩
          · exact .inl (by rw [h, s.entry_setEntry_ne hk])
        · by_cases hk : k = n
          · subst hk
            rw [s.entry_setEntry_self hn] at h1
            exact absurd h1 (by simp [SchedEntry.skip_status])
          · rw [s.entry_setEntry_ne hk] at h1 h2 h3
            exact .inr ⟨h1, h2, h3⟩
    · exact ih s

/-- The claim the choice leaves is for the first attempt of a DUE entry whose reservation fits, if there is one (R113). -/
theorem State.chooseFrom_claim (ns : List Nat) (s : State) :
    (State.chooseFrom ns s).line.schedClaim = none ∨
      ∃ n ∈ ns, (State.chooseFrom ns s).line.schedClaim = some ((s.entry n).claim n 1) ∧
        (State.chooseFrom ns s).entry n = s.entry n ∧ s.candidate n = true := by
  induction ns generalizing s with
  | nil => exact .inl rfl
  | cons n ns ih =>
    unfold State.chooseFrom
    split
    · next hc =>
      split
      · exact .inr ⟨n, List.mem_cons_self, rfl, rfl, hc⟩
      · have hdue := ((s.candidate_iff n).1 hc).1
        have hn : n < 32 := s.entry_lt_of_status (by simp [hdue])
        rcases ih (s.setEntry n (s.entry n).skip) with h | ⟨k, hk, h1, h2, h3⟩
        · exact .inl h
        · have hkn : k ≠ n := by
            rintro rfl
            have := ((State.candidate_iff _ k).1 h3).1
            rw [s.entry_setEntry_self hn] at this
            exact absurd this (by simp [SchedEntry.skip_status])
          have hke := s.entry_setEntry_ne hkn (s.entry n).skip
          rw [hke] at h1 h2
          refine .inr ⟨k, List.mem_cons_of_mem _ hk, h1, h2, ?_⟩
          rw [State.candidate_iff, hke] at h3
          exact (s.candidate_iff k).2 h3
    · rcases ih s with h | ⟨k, hk, h⟩
      · exact .inl h
      · exact .inr ⟨k, List.mem_cons_of_mem _ hk, h⟩

theorem State.choose_frame : s.choose = { s with
    line := { s.line with schedClaim := s.choose.line.schedClaim }
    sched := { s.sched with entries := s.choose.sched.entries } } := by
  unfold State.choose
  split
  · exact State.chooseFrom_frame _ _
  · rfl

theorem State.choose_entry (k : Nat) : s.choose.entry k = s.entry k ∨
    ((s.entry k).status = .due ∧ (s.entry k).isWrite = true ∧ s.choose.entry k = (s.entry k).skip) := by
  unfold State.choose
  split
  · exact State.chooseFrom_entry _ _ k
  · exact .inl rfl

theorem State.ready_iff (n : Nat) : s.ready n ↔ s.candidate n = true := by
  rw [s.candidate_iff]
  simp [State.ready, SchedEntry.reservation, exchangeReservation]

theorem State.sends_iff (n : Nat) : s.sends n ↔ s.hasData n = true := by
  unfold State.sends State.hasData SchedEntry.isWrite Mailbox.hasDataFor
  by_cases h : (s.entry n).direction = 1#8
  · by_cases hp : (s.entry n).policy = 0 <;> simp [h, hp]
    cases (s.mailbox n).data <;> simp
  · simp [h]

/-- What the choice among the entries from `lo` on leaves (R113, R114). -/
theorem State.chooseFrom_range (k lo : Nat) (s : State) (hk : lo + k = 32) :
    let t := State.chooseFrom (List.range' lo k) s
    let reached := fun n => ∀ j, lo ≤ j → j < n → ¬ (s.ready j ∧ s.sends j)
    (∀ n, lo ≤ n → reached n → s.ready n → s.sends n → t.line.schedClaim = some ((s.entry n).claim n 1)) ∧
    ((∀ n, lo ≤ n → s.ready n → ¬ s.sends n) → t.line.schedClaim = none) ∧
    (∀ n, lo ≤ n → reached n → s.ready n → ¬ s.sends n → t.entry n = (s.entry n).skip) ∧
    (∀ n, ¬ (lo ≤ n ∧ reached n ∧ s.ready n ∧ ¬ s.sends n) → t.entry n = s.entry n) := by
  induction k generalizing lo s with
  | zero =>
    have hlt : ∀ n, s.ready n → n < 32 := fun n h => s.entry_lt_of_status (by simp [h.1])
    refine ⟨fun n hn _ hr => ?_, fun _ => rfl, fun n hn _ hr => ?_, fun n _ => rfl⟩ <;>
      exact absurd (hlt n hr) (by omega)
  | succ k ih =>
    rw [List.range'_succ]
    unfold State.chooseFrom
    have hlo : ∀ {n}, lo ≤ n → n ≠ lo → lo + 1 ≤ n := fun h1 h2 => by omega
    by_cases hc : s.candidate lo = true
    · rw [if_pos hc]
      have hr : s.ready lo := (s.ready_iff lo).2 hc
      by_cases hd : s.hasData lo = true
      · rw [if_pos hd]
        have hs : s.sends lo := (s.sends_iff lo).2 hd
        have only : ∀ n, lo ≤ n → (∀ j, lo ≤ j → j < n → ¬ (s.ready j ∧ s.sends j)) → n = lo := by
          intro n hn h
          by_contra hne
          exact h lo (Nat.le_refl _) (by omega) ⟨hr, hs⟩
        refine ⟨fun n hn h _ _ => ?_, fun h => absurd hs (h lo (Nat.le_refl _) hr), fun n hn h _ hns => ?_, fun n _ => rfl⟩
        · rw [only n hn h]; rfl
        · rw [only n hn h] at hns; exact absurd hs hns
      · rw [if_neg hd]
        have hs : ¬ s.sends lo := fun h => hd ((s.sends_iff lo).1 h)
        have hn32 : lo < 32 := s.entry_lt_of_status (by simp [hr.1])
        have he : ∀ {n}, n ≠ lo → (s.setEntry lo (s.entry lo).skip).entry n = s.entry n := fun h => s.entry_setEntry_ne h _
        have hready : ∀ {n}, n ≠ lo → ((s.setEntry lo (s.entry lo).skip).ready n ↔ s.ready n) := fun h => by
          unfold State.ready; rw [he h]; rfl
        have hsends : ∀ {n}, n ≠ lo → ((s.setEntry lo (s.entry lo).skip).sends n ↔ s.sends n) := fun h => by
          unfold State.sends; rw [he h]; rfl
        have hreach : ∀ n, (∀ j, lo + 1 ≤ j → j < n → ¬ ((s.setEntry lo (s.entry lo).skip).ready j ∧
            (s.setEntry lo (s.entry lo).skip).sends j)) ↔ ∀ j, lo ≤ j → j < n → ¬ (s.ready j ∧ s.sends j) := by
          intro n
          constructor
          · intro h j hj hjn
            by_cases hjl : j = lo
            · subst hjl; exact fun h' => hs h'.2
            · rw [← hready hjl, ← hsends hjl]; exact h j (hlo hj hjl) hjn
          · intro h j hj hjn
            have hjl : j ≠ lo := by omega
            rw [hready hjl, hsends hjl]; exact h j (by omega) hjn
        obtain ⟨h1, h2, h3, h4⟩ := ih (lo + 1) (s.setEntry lo (s.entry lo).skip) (by omega)
        refine ⟨fun n hn h hrn hsn => ?_, fun h => h2 fun n hn => ?_, fun n hn h hrn hsn => ?_, fun n hn => ?_⟩
        · have hne : n ≠ lo := fun h => hs (h ▸ hsn)
          rw [← he hne]
          exact h1 n (hlo hn hne) ((hreach n).2 h) ((hready hne).2 hrn) ((hsends hne).2 hsn)
        · have hne : n ≠ lo := by omega
          rw [hready hne, hsends hne]; exact h n (by omega)
        · by_cases hne : n = lo
          · subst hne
            rw [h4 n (by omega), s.entry_setEntry_self hn32]
          · rw [h3 n (hlo hn hne) ((hreach n).2 h) ((hready hne).2 hrn) (by rwa [hsends hne]), he hne]
        · have hne : n ≠ lo := by
            rintro rfl
            exact hn ⟨Nat.le_refl _, fun j h1 h2 => absurd h1 (by omega), hr, hs⟩
          rw [h4 n, he hne]
          rintro ⟨h5, h6, h7, h8⟩
          exact hn ⟨by omega, (hreach n).1 h6, (hready hne).1 h7, fun h => h8 ((hsends hne).2 h)⟩
    · rw [if_neg hc]
      have hr : ¬ s.ready lo := fun h => hc ((s.ready_iff lo).1 h)
      have hreach : ∀ n, (∀ j, lo + 1 ≤ j → j < n → ¬ (s.ready j ∧ s.sends j)) ↔
          ∀ j, lo ≤ j → j < n → ¬ (s.ready j ∧ s.sends j) := by
        intro n
        refine ⟨fun h j hj hjn => ?_, fun h j hj => h j (by omega)⟩
        by_cases hjl : j = lo
        · subst hjl; exact fun h' => hr h'.1
        · exact h j (hlo hj hjl) hjn
      obtain ⟨h1, h2, h3, h4⟩ := ih (lo + 1) s (by omega)
      have hne : ∀ {n}, s.ready n → n ≠ lo := fun h he => hr (he ▸ h)
      refine ⟨fun n hn h hrn => h1 n (hlo hn (hne hrn)) ((hreach n).2 h) hrn, fun h => h2 fun n hn => h n (by omega),
        fun n hn h hrn => h3 n (hlo hn (hne hrn)) ((hreach n).2 h) hrn, fun n hn => h4 n ?_⟩
      rintro ⟨h5, h6, h7⟩
      exact hn ⟨by omega, (hreach n).1 h6, h7⟩

theorem SchedEntry.claim_eq (e : SchedEntry) (n attempt : Nat) : e.claim n attempt = {
    owner := .scheduler n
    exchange := if e.direction = 0 then .poll else .write
    dest := e.target.toNat
    object := e.object
    lc := if e.direction = 0 then 0 else e.length.toNat
    lr := if e.direction = 0 then e.length.toNat else 0
    attempt := attempt
    compare := none } := by
  unfold SchedEntry.claim SchedEntry.isRead
  by_cases h : e.direction = 0#8 <;> simp [h]

/-- What a choice does in RUNNING and SCHED (R113, R114). -/
theorem State.choose_chosen (h : s.scheduling = true) : s.Chosen s.choose := by
  have hc : s.choose = State.chooseFrom (List.range' 0 32) s := by
    unfold State.choose; rw [if_pos h]; rfl
  obtain ⟨h1, h2, h3, h4⟩ := State.chooseFrom_range 32 0 s rfl
  have hreach : ∀ n, (∀ j, 0 ≤ j → j < n → ¬ (s.ready j ∧ s.sends j)) ↔ s.choiceReaches n :=
    fun n => ⟨fun h j => h j (by omega), fun h j _ => h j⟩
  rw [hc]
  constructor
  · intro n hn hr hs
    rw [← SchedEntry.claim_eq]
    exact h1 n (by omega) ((hreach n).2 hn) hr hs
  · exact fun h => h2 fun n _ => h n
  · exact fun n hn hr hs => h3 n (by omega) ((hreach n).2 hn) hr hs
  · intro n hn
    exact h4 n fun h => hn ⟨(hreach n).1 h.2.1, h.2.2⟩

/-- The choice looks at the schedule, the Roster and the timer, and shows in the schedule and the claim. -/
theorem State.Chosen.congr {s u t v : State} (h : s.Chosen t) (h1 : s.sched = u.sched) (h2 : s.roster = u.roster)
    (h3 : s.timer = u.timer) (h4 : t.sched = v.sched) (h5 : t.line.schedClaim = v.line.schedClaim) : u.Chosen v := by
  have he : ∀ n, u.entry n = s.entry n := fun n => by rw [State.entry, State.entry, h1]
  have hv : ∀ n, v.entry n = t.entry n := fun n => by rw [State.entry, State.entry, h4]
  have hb : ∀ n, u.mailbox n = s.mailbox n := fun n => by rw [State.mailbox, State.mailbox, h1]
  have hready : ∀ n, u.ready n ↔ s.ready n := fun n => by unfold State.ready; rw [he, State.rw, State.rw, h2, h3]
  have hsends : ∀ n, u.sends n ↔ s.sends n := fun n => by unfold State.sends; rw [he, hb]
  have hreach : ∀ n, u.choiceReaches n ↔ s.choiceReaches n := fun n => by
    unfold State.choiceReaches; simp only [hready, hsends]
  constructor
  · intro n; rw [hreach, hready, hsends, he, ← h5]; exact h.placed n
  · intro hn; rw [← h5]; exact h.withdrawn (by simpa only [hready, hsends] using hn)
  · intro n; rw [hreach, hready, hsends, he, hv]; exact h.skipped n
  · intro n; rw [hreach, hready, hsends, he, hv]; exact h.kept n

theorem State.choose_of_not_scheduling (h : s.scheduling = false) : s.choose = s := by
  unfold State.choose; rw [h]; rfl

/-- An entry that is not DUE is not touched by the choice. -/
theorem State.choose_entry_of_not_due {k : Nat} (h : (s.entry k).status ≠ .due) : s.choose.entry k = s.entry k :=
  (s.choose_entry k).resolve_right fun h' => h h'.1

theorem State.choose_claim : s.choose.line.schedClaim = s.line.schedClaim ∧ s.scheduling = false ∨
    s.scheduling = true ∧ (s.choose.line.schedClaim = none ∨
      ∃ n, n < 32 ∧ s.choose.line.schedClaim = some ((s.entry n).claim n 1) ∧ s.choose.entry n = s.entry n ∧
        s.candidate n = true) := by
  unfold State.choose
  split
  · next h =>
    refine .inr ⟨h, ?_⟩
    rcases State.chooseFrom_claim entryNumbers s with h' | ⟨n, hn, h'⟩
    · exact .inl h'
    · refine .inr ⟨n, ?_, h'⟩
      have := List.mem_range'_1.1 hn
      omega
  · next h => exact .inl ⟨rfl, by simpa using h⟩

@[simp] theorem State.choose_run : s.choose.run = s.run := by rw [State.choose_frame]
@[simp] theorem State.choose_timer : s.choose.timer = s.timer := by rw [State.choose_frame]
@[simp] theorem State.choose_roster : s.choose.roster = s.roster := by rw [State.choose_frame]
@[simp] theorem State.choose_disc : s.choose.disc = s.disc := by rw [State.choose_frame]
@[simp] theorem State.choose_req : s.choose.req = s.req := by rw [State.choose_frame]
@[simp] theorem State.choose_host : s.choose.host = s.host := by rw [State.choose_frame]
@[simp] theorem State.choose_dataBus : s.choose.dataBus = s.dataBus := by rw [State.choose_frame]
@[simp] theorem State.choose_freeIndex : s.choose.freeIndex = s.freeIndex := by rw [State.choose_frame]
@[simp] theorem State.choose_pending : s.choose.pending = s.pending := by rw [State.choose_frame]
@[simp] theorem State.choose_mailboxes : s.choose.sched.mailboxes = s.sched.mailboxes := by rw [State.choose_frame]
@[simp] theorem State.choose_line_record : s.choose.line.record = s.line.record := by rw [State.choose_frame]
@[simp] theorem State.choose_line_beaconPending : s.choose.line.beaconPending = s.line.beaconPending := by
  rw [State.choose_frame]
@[simp] theorem State.choose_line_reqClaim : s.choose.line.reqClaim = s.line.reqClaim := by rw [State.choose_frame]
@[simp] theorem State.choose_line_roundClaim : s.choose.line.roundClaim = s.line.roundClaim := by rw [State.choose_frame]
@[simp] theorem State.choose_line_lastGrant : s.choose.line.lastGrant = s.line.lastGrant := by rw [State.choose_frame]
@[simp] theorem State.choose_line_idleRun : s.choose.line.idleRun = s.line.idleRun := by rw [State.choose_frame]
@[simp] theorem State.choose_line_echoCount : s.choose.line.echoCount = s.line.echoCount := by rw [State.choose_frame]
@[simp] theorem State.choose_line_lineErrors : s.choose.line.lineErrors = s.line.lineErrors := by rw [State.choose_frame]
@[simp] theorem State.choose_line_boundary : s.choose.line.boundary = s.line.boundary := by rw [State.choose_frame]

/-! ### Outcomes (R116, R123, R130) -/

/-- The mailbox's part of an outcome: the entry's own mailbox alone, and MBX where a READ mailbox is filled (R123, R127, R130). -/
theorem State.mailboxOutcome_eq (s : State) {n : Nat} (hn : n < 32) (o : LineOutcome) (reply : Reply) :
    s.mailboxOutcome n o reply =
      (s.setMailbox n ((s.mailbox n).taken (s.entry n) o reply s.timer.cycle)).setSticky { s.host.sticky with
        mbx := s.host.sticky.mbx ||
          (o == .ok && (s.entry n).direction != 1 && !((s.mailbox n).full && (s.entry n).policy == 0)) } := by
  have hself : s.setMailbox n (s.mailbox n) = s := by
    unfold State.setMailbox State.mailbox; rw [Table.set_get_self _ hn]
  unfold State.mailboxOutcome Mailbox.taken SchedEntry.isWrite Mailbox.fill Mailbox.writeOutcome
  by_cases hw : (s.entry n).direction = 1#8
  · simp [hw]; rfl
  · have hw' : ((s.entry n).direction != 1#8) = true := by simpa using hw
    by_cases ho : o = .ok
    · cases hf : (s.mailbox n).full <;> cases hp : ((s.entry n).policy == 0#8) <;>
        (simp only [beq_iff_eq, beq_eq_false_iff_ne] at hp; simp [hw, hw', ho, hp, State.raiseMbx, satSucc]; try rfl)
    · have ho' : (o == .ok) = false := by simpa using ho
      simp [hw, ho, ho', hself]; rfl

/-- Outside RUNNING or SCHED the outcome of an attempt ends the issue, whatever it is (R116, R117). -/
theorem State.schedOutcome_ended {s : State} {n : Nat} (h : s.scheduling = false) (hs : (s.entry n).status = .inFlight)
    (o : LineOutcome) (reply : Reply) : s.schedOutcome n o reply =
      ((s.setEntry n ((s.entry n).ended o reply s.timer.cycle)).setMailbox n
        ((s.mailbox n).taken (s.entry n) o reply s.timer.cycle)).setSticky { s.host.sticky with
          mbx := s.host.sticky.mbx ||
            (o == .ok && (s.entry n).direction != 1 && !((s.mailbox n).full && (s.entry n).policy == 0)) } := by
  have hn : n < 32 := s.entry_lt_of_status (by simp [hs])
  have hset : ∀ a b : SchedEntry, (s.sched.entries.set n a).set n b = s.sched.entries.set n b := by
    intro a b
    exact Table.ext_cells (by simp [Table.set])
  have he : ((s.entry n).noteOutcome o reply s.timer.cycle).endIssue
      (o.retryable || o == .addressMismatch || o == .lineError) = (s.entry n).ended o reply s.timer.cycle := by
    unfold SchedEntry.endIssue SchedEntry.noteOutcome SchedEntry.ended
    cases o <;> simp [LineOutcome.retryable, satSucc]
  unfold State.schedOutcome
  dsimp only
  rw [State.mailboxOutcome_eq _ hn, State.entry_setEntry_self _ hn]
  generalize hu : State.setSticky _ _ = u
  have hue : u.entry n = (s.entry n).noteOutcome o reply s.timer.cycle := by
    rw [← hu]; exact State.entry_setEntry_self s hn _
  have hus : u.scheduling = false := by rw [← hu]; exact h
  have hr : u.schedRetry n = false := by simp [State.schedRetry, hus]
  rw [hue, if_neg (by simp [SchedEntry.noteOutcome, hs]), hr, Bool.and_false, if_neg (by simp),
    State.choose_of_not_scheduling _ (show (u.setEntry n _).scheduling = false from hus), he, ← hu]
  show ({ s with sched := { s.sched with entries := (s.sched.entries.set n _).set n _, mailboxes := _ }, host := _ } : State) = _
  rw [hset]
  rfl
/-! ### Leaving the scheduled window, and the cycle start -/

/-- Waiting retries end, and nothing else of the schedule table changes (R118). -/
theorem State.schedWithdraw_retriesEnded : s.retriesEnded s.schedWithdraw := by
  intro n
  by_cases hn : n < 32
  · exact State.entry_updateEntries (s.setSchedClaim none) hn _
  · rw [State.entry_out _ (by omega), State.entry_out _ (by omega)]
    simp

/-- Leaving for OFF or FAULTED leaves no entry DUE or HELD (R120). -/
theorem State.schedLeave_status (n : Nat) :
    (s.schedLeave.entry n).status ≠ .due ∧ (s.schedLeave.entry n).status ≠ .held := by
  by_cases hn : n < 32
  · have h : s.schedLeave.entry n = (s.schedWithdraw.entry n).unmark := State.entry_updateEntries _ hn _
    rw [h]
    generalize s.schedWithdraw.entry n = e
    unfold SchedEntry.unmark
    split <;> simp_all
  · rw [State.entry_out _ (by omega)]
    simp

/-- Every entry with no attempt on the line, after the entry to OFF or FAULTED (R120). -/
theorem State.schedLeave_returned {s : State} {n : Nat} (h : s.entryOnLine n = false) :
    s.schedLeave.entry n = (s.entry n).returned := by
  by_cases hn : n < 32
  · have h1 : s.schedLeave.entry n = (s.schedWithdraw.entry n).unmark := State.entry_updateEntries _ hn _
    rw [h1, s.schedWithdraw_retriesEnded n]
    unfold SchedEntry.returned SchedEntry.unmark SchedEntry.endIssue
    cases hs : (s.entry n).status <;> simp [hs, h]
    · cases (s.entry n).disablePending <;> rfl
  · rw [State.entry_out _ (by omega), State.entry_out _ (by omega)]
    simp [SchedEntry.returned]

/-- The cycle start at the Scheduler touches the claim, the schedule table and STARVE (R110 to R113). -/
theorem State.schedCycleStart_frame : s.schedCycleStart = { s with
    line := { s.line with schedClaim := s.schedCycleStart.line.schedClaim }
    sched := { s.sched with entries := s.schedCycleStart.sched.entries }
    host := { s.host with sticky := { s.host.sticky with
      starve := s.host.sticky.starve || s.sched.entries.cells.any fun e => e.starves s.timer.inForce } } } := by
  unfold State.schedCycleStart
  rw [State.choose_frame]
  cases h : s.sched.entries.cells.any fun e => e.starves s.timer.inForce <;> simp [State.raiseStarve]

/-- What the schedule table and the claim hold after a cycle start at the Scheduler (R110 to R114). -/
theorem State.schedCycleStart_marks (hw : s.timer.window = .sched) : s.cycleMarks s.schedCycleStart := by
  have ht : s.schedCycleStart.timer = s.timer := by rw [State.schedCycleStart_frame]
  have hr : s.schedCycleStart.run = s.run := by rw [State.schedCycleStart_frame]
  unfold State.cycleMarks
  rw [ht, hr]
  change let m := s.updateEntries fun _ e => e.atCycleStart s.timer.inForce (s.roster.issuable e.target.toNat); _
  intro m
  have key : ∀ u : State, u.sched = m.sched → u.roster = m.roster → u.timer = m.timer → u.run = m.run → u.line = m.line →
      if s.run.state = .running then m.Chosen u.choose
      else (∀ n, u.choose.entry n = m.entry n) ∧ u.choose.line.schedClaim = s.line.schedClaim := by
    intro u h1 h2 h3 h4 h5
    split
    · next hrun =>
      refine (u.choose_chosen ?_).congr h1 h2 h3 rfl rfl
      have h6 : u.run.state = .running := by rw [h4]; exact hrun
      have h7 : u.timer.window = .sched := by rw [h3]; exact hw
      simp [State.scheduling, h6, h7]
    · next hrun =>
      have hsch : u.scheduling = false := by
        have h6 : u.run.state ≠ .running := by rw [h4]; exact hrun
        simp [State.scheduling, h6]
      rw [u.choose_of_not_scheduling hsch]
      exact ⟨fun n => by rw [State.entry, State.entry, h1], by rw [h5]; rfl⟩
  unfold State.schedCycleStart
  generalize s.sched.entries.cells.any (fun e => e.starves s.timer.inForce) = b
  cases b
  · exact key m rfl rfl rfl rfl rfl
  · exact key m.raiseStarve rfl rfl rfl rfl rfl

end Sys2Proof.Machine
end

