-- ==== Sys2Proof/Laws/Transitions.lean ====
section
/-! SUPPORT. What a cycle start and a change of run state can do, block by block (R53, R163). -/

namespace Sys2Proof.Machine

open Sys2Proof

/-! ### The Request Engine and the Discovery Unit -/

/-- Only the claims of the open window, the unit and the engine may differ. -/
def State.EngineFrame (s t : State) : Prop :=
  t = { s with
    line := { s.line with reqClaim := t.line.reqClaim, roundClaim := t.line.roundClaim }
    disc := t.disc
    req := t.req }

theorem State.EngineFrame.refl (s : State) : s.EngineFrame s := rfl

theorem State.EngineFrame.trans {s t u : State} (h : s.EngineFrame t) (h' : t.EngineFrame u) : s.EngineFrame u := by
  unfold State.EngineFrame at *
  rw [h', h]

theorem State.takeUp_engineFrame (s : State) : s.EngineFrame s.takeUp := by
  have h := s.takeUp_frame.1
  unfold State.EngineFrame
  rw [h]

theorem State.completeHead_engineFrame (s : State) (o : LineOutcome) (n : Nat) (reply : Reply) :
    s.EngineFrame (s.completeHead o n reply) := by
  unfold State.completeHead
  split <;> rfl

theorem State.finishHead_engineFrame (s : State) (o : LineOutcome) (n : Nat) (reply : Reply) :
    s.EngineFrame (s.finishHead o n reply) :=
  (State.EngineFrame.trans (t := s.setReqClaim none) rfl (State.completeHead_engineFrame _ o n reply)).trans
    (State.takeUp_engineFrame _)

theorem State.reqOutcome_engineFrame (s : State) (o : LineOutcome) (n : Nat) (reply : Reply) :
    s.EngineFrame (s.reqOutcome o n reply) := by
  unfold State.reqOutcome
  split
  · rfl
  · split
    · rfl
    · exact s.finishHead_engineFrame o n reply

theorem State.reqWindowOpens_engineFrame (s : State) : s.EngineFrame s.reqWindowOpens := by
  unfold State.reqWindowOpens
  split
  · rfl
  · split
    · split
      · exact s.finishHead_engineFrame _ _ _
      · split
        · exact s.finishHead_engineFrame _ _ _
        · rfl
    · split
      · exact s.finishHead_engineFrame _ _ _
      · rfl
    · rfl
    · rfl

theorem State.reqLeave_engineFrame (s : State) : s.EngineFrame s.reqLeave := by
  unfold State.reqLeave
  split
  · rfl
  · exact s.finishHead_engineFrame _ _ _
  · rfl
  · rfl

theorem State.endSweep_engineFrame (s : State) (sw : Sweep) (o : LineOutcome) : s.EngineFrame (s.endSweep sw o) := rfl

theorem State.placeRound_engineFrame (s : State) (sw : Sweep) : s.EngineFrame (s.placeRound sw) := by
  unfold State.placeRound
  split <;> rfl

theorem State.endSweeping_engineFrame (s : State) (o : LineOutcome) : s.EngineFrame (s.endSweeping o) := by
  unfold State.endSweeping
  split <;> rfl

theorem State.discCycleStart_engineFrame (s : State) (applied : Bool) : s.EngineFrame (s.discCycleStart applied) := by
  unfold State.discCycleStart
  split
  · split
    · exact s.placeRound_engineFrame _
    · rfl
  · rfl
  · rfl

theorem State.discFaultSeen_engineFrame (s : State) : s.EngineFrame s.discFaultSeen := by
  unfold State.discFaultSeen
  split <;> rfl

theorem State.discRoundEnd_engineFrame (s : State) : s.EngineFrame s.discRoundEnd := by
  unfold State.discRoundEnd
  split
  · split
    · rfl
    · exact s.placeRound_engineFrame _
  · rfl
  · rfl

theorem State.EngineFrame.freeIndex_eq {s t : State} (h : s.EngineFrame t) : t.freeIndex = s.freeIndex := by
  rw [h]

/-- The engine's part and the unit's part, in whichever order (log 8). -/
theorem State.engineAndUnit_engineFrame (s : State) (both : Bool) (engine unit : State → State)
    (he : ∀ s : State, s.EngineFrame (engine s)) (hu : ∀ s : State, s.EngineFrame (unit s)) :
    State.EngineFrame { s with freeIndex := s.freeIndex + both.toNat } (s.engineAndUnit both engine unit) := by
  unfold State.engineAndUnit
  cases both
  · exact (he _).trans (hu _)
  · rw [if_pos rfl]
    split
    · exact (he _).trans (hu _)
    · exact (hu _).trans (he _)

theorem State.ownersLeave_engineFrame (s : State) (o : LineOutcome) :
    ∃ n, State.EngineFrame { s with freeIndex := n } (s.ownersLeave o) :=
  ⟨_, s.engineAndUnit_engineFrame _ _ _ State.reqLeave_engineFrame fun s => s.endSweeping_engineFrame o⟩

/-! ### Leaving RUNNING -/

/-- The windows end: the timer stops at once, its sets and the cycle number kept (R58). -/
theorem CycleTimer.closed_close (t : CycleTimer) : t.Closed t.close :=
  ⟨⟨rfl, rfl⟩, rfl, ⟨rfl, rfl, rfl⟩, rfl⟩

theorem State.enterOff_eq (s : State) : s.enterOff = { s with
    run := { s.run with state := .off, check := .idle }
    timer := s.timer.close
    line := { s.line with beaconPending := false }
    host := { s.host with sticky := { s.host.sticky with drained := true } } } := rfl

theorem State.schedLeave_eq (s : State) : s.schedLeave = { s with
    line := { s.line with schedClaim := none }
    sched := { s.sched with entries := s.schedLeave.sched.entries } } := rfl

theorem State.schedWithdraw_eq (s : State) : s.schedWithdraw = { s with
    line := { s.line with schedClaim := none }
    sched := { s.sched with entries := s.schedWithdraw.sched.entries } } := rfl

/-! ### What leaving RUNNING leaves of the head and of a sweep (R99, R100, R102, R147) -/

/-- A completed head outside RUNNING: nothing is taken up behind it (R136, R144, R147). -/
theorem State.finishHead_not_running {s : State} (h : s.run.state ≠ .running) (o : LineOutcome) (n : Nat) (reply : Reply)
    {q : Request} {behind : List Request} (hq : s.req.queue = q :: behind) : s.finishHead o n reply = { s with
      line := { s.line with reqClaim := none }
      req := { s.req with
        queue := behind, head := .untaken, completions := s.req.completions ++ [q.completion o n reply]
        reservations := s.req.reservations - 1 } } := by
  have hr : ((s.setReqClaim none).completeHead o n reply).run = s.run := by
    rw [State.completeHead_engineFrame]; rfl
  unfold State.finishHead
  rw [State.takeUp_not _ (by simp [State.mayTakeUp, hr, h])]
  simp only [State.completeHead, State.setReqClaim, hq, State.writeCompletion]

/-- The engine's own part of leaving RUNNING, beside a unit that writes nothing (R147). -/
theorem State.reqLeave_left {s : State} (h : s.run.state ≠ .running) : s.HeadLeft s.reqLeave [] := by
  constructor
  · intro hh
    have : s.reqLeave = s := by rcases hh with hh | hh <;> simp [State.reqLeave, hh]
    simp [this]
  · intro hh
    simp [State.reqLeave, hh, State.setReqClaim, State.setReservations, State.setHead]
  · intro o n q behind hh hq
    have : s.reqLeave = s.finishHead o n {} := by simp [State.reqLeave, hh]
    rw [this, State.finishHead_not_running h o n {} hq]
    exact ⟨rfl, [q.completion o n {}], .inl rfl, by simp⟩

/-- A unit that writes its records behind the engine's. -/
theorem State.HeadLeft.then_unit {s t u : State} {unit : List Completion} (h : s.HeadLeft t [])
    (hr : u.req = { t.req with
      completions := t.req.completions ++ unit, reservations := t.req.reservations - unit.length })
    (hc : u.line.reqClaim = t.line.reqClaim) : s.HeadLeft u unit := by
  constructor
  · intro hh
    rw [hr, h.stays hh]; simp
  · intro hh
    rw [hr, hc, (h.claimed hh).2, (h.claimed hh).1]; simp
  · intro o n q behind hh hq
    obtain ⟨h1, w, hw, h2⟩ := h.retry o n q behind hh hq
    have hw' : w = [q.completion o n {}] := by rcases hw with rfl | rfl <;> rfl
    refine ⟨hc.trans h1, q.completion o n {} :: unit, .inl rfl, ?_⟩
    rw [hr, h2, hw']; simp

/-- A unit that writes its records before the engine's. -/
theorem State.HeadLeft.after_unit {s t u : State} {unit : List Completion} (h : t.HeadLeft u [])
    (hr : t.req = { s.req with
      completions := s.req.completions ++ unit, reservations := s.req.reservations - unit.length }) :
    s.HeadLeft u unit := by
  constructor
  · intro hh
    rw [h.stays (by rw [hr]; exact hh), hr]; simp
  · intro hh
    obtain ⟨h1, h2⟩ := h.claimed (by rw [hr]; exact hh)
    refine ⟨h1, ?_⟩
    rw [h2, hr]; simp; omega
  · intro o n q behind hh hq
    obtain ⟨h1, w, hw, h2⟩ := h.retry o n q behind (by rw [hr]; exact hh) (by rw [hr]; exact hq)
    have hw' : w = [q.completion o n {}] := by rcases hw with rfl | rfl <;> rfl
    refine ⟨h1, unit ++ [q.completion o n {}], .inr rfl, ?_⟩
    rw [h2, hw', hr]; simp; omega

/-- A sweep that waits ends with one record; nothing else of the unit changes (R99, R100, R102). -/
theorem State.endSweeping_eq (s : State) (o : LineOutcome) : s.endSweeping o = { s with
    line := { s.line with roundClaim := if s.disc.isSweeping then false else s.line.roundClaim }
    disc := if s.disc.isSweeping then .idle else s.disc
    req := { s.req with
      completions := s.req.completions ++ s.disc.ending o, reservations := s.req.reservations - (s.disc.ending o).length } } := by
  unfold State.endSweeping
  cases h : s.disc with
  | sweeping sw => rfl
  | idle => simp [Discovery.isSweeping, Discovery.ending, ← h]
  | inRound sw rd => simp [Discovery.isSweeping, Discovery.ending, ← h]

/-- The engine's head leaves RUNNING without touching the unit. -/
theorem State.reqLeave_disc {s : State} (h : s.run.state ≠ .running) :
    s.reqLeave.disc = s.disc ∧ s.reqLeave.line.roundClaim = s.line.roundClaim := by
  unfold State.reqLeave
  split
  · exact ⟨rfl, rfl⟩
  · next o n _ =>
    cases hq : s.req.queue with
    | nil => simp [State.finishHead, State.completeHead, hq, State.takeUp, State.takeUpFuel]
    | cons q behind => rw [State.finishHead_not_running h o n {} hq]; exact ⟨rfl, rfl⟩
  · exact ⟨rfl, rfl⟩
  · exact ⟨rfl, rfl⟩

/-- What the engine and a unit that is SWEEPING leave as the run state leaves RUNNING, whichever writes first (log 8). -/
theorem State.ownersLeave_left {s : State} (h : s.run.state ≠ .running) (o : LineOutcome) :
    s.HeadLeft (s.ownersLeave o) (s.disc.ending o) ∧ s.sweepLeft (s.ownersLeave o) := by
  have hsw : ∀ u : State, u.disc = s.disc → s.sweepLeft (u.endSweeping o) := by
    intro u hu
    rw [State.endSweeping_eq, hu]
    exact ⟨fun sw hd => by simp [hd, Discovery.isSweeping], fun hd => by simp [hd, Discovery.isSweeping]⟩
  have engineFirst : ∀ u : State, u.run = s.run → u.disc = s.disc → u.req = s.req →
      s.HeadLeft (u.reqLeave.endSweeping o) (s.disc.ending o) ∧ s.sweepLeft (u.reqLeave.endSweeping o) := by
    intro u h1 h2 h3
    have hu : u.run.state ≠ .running := by rw [h1]; exact h
    have hd := (State.reqLeave_disc hu).1
    refine ⟨?_, hsw _ (by rw [hd, h2])⟩
    have h4 : s.HeadLeft u.reqLeave [] := (State.reqLeave_left hu).after_unit (by simp [h3])
    refine h4.then_unit ?_ ?_
    · rw [State.endSweeping_eq, hd, h2]
    · rw [State.endSweeping_eq]
  unfold State.ownersLeave State.engineAndUnit
  split
  · split
    · exact engineFirst s.nextFree rfl rfl rfl
    · have hu : (s.nextFree.endSweeping o).run.state ≠ .running := by rw [State.endSweeping_eq]; exact h
      refine ⟨(State.reqLeave_left hu).after_unit (by rw [State.endSweeping_eq]; rfl), ?_⟩
      have hs := hsw s.nextFree rfl
      obtain ⟨h5, h6⟩ := State.reqLeave_disc hu
      exact ⟨fun sw hd => by rw [h5, h6]; exact hs.1 sw hd, fun hd => by rw [h5]; exact hs.2 hd⟩
  · exact engineFirst s rfl rfl rfl

/-! ### The cycle start -/

/-- The timer's part of a cycle start (R50, R53, R55). -/
theorem CycleTimer.started_cycleStart (t : CycleTimer) : t.Started t.cycleStart := by
  unfold CycleTimer.cycleStart CycleTimer.openSched CycleTimer.applyPending
  constructor <;> split <;> simp_all

/-- What a cycle start touches: the timer, the beacon, the claims of the Scheduler and the unit, the schedule table, CYC and
STARVE, and the unit where a pending set was applied (R53, R67, R85, R110). -/
theorem State.cycleStart_frame (s : State) : s.cycleStart = { s with
    timer := s.timer.cycleStart
    line := { s.line with
      beaconPending := s.line.beaconPending || s.run.state == .running
      schedClaim := s.cycleStart.line.schedClaim
      reqClaim := s.cycleStart.line.reqClaim
      roundClaim := s.cycleStart.line.roundClaim }
    disc := s.cycleStart.disc
    req := s.cycleStart.req
    sched := { s.sched with entries := s.cycleStart.sched.entries }
    host := { s.host with sticky := { s.host.sticky with
      cyc := true
      starve := s.host.sticky.starve || s.sched.entries.cells.any fun e => e.starves s.timer.cycleStart.inForce } } } := by
  unfold State.cycleStart
  dsimp only
  rw [State.discCycleStart_engineFrame, State.schedCycleStart_frame]
  by_cases h : s.run.state = .running <;> simp [h, State.raiseCyc]

/-- What the schedule table and the Scheduler's claim hold after a cycle start (R110 to R114). -/
theorem State.cycleStart_marks (s : State) : s.cycleMarks s.cycleStart := by
  have key : ∀ u : State, u.sched = s.sched → u.roster = s.roster → u.timer = s.timer.cycleStart → u.run = s.run →
      u.line.schedClaim = s.line.schedClaim →
      s.cycleMarks (u.schedCycleStart.discCycleStart s.timer.pendingPresent) := by
    intro u h1 h2 h3 h4 h5
    have hw : u.timer.window = .sched := by rw [h3]; exact s.timer.started_cycleStart.window
    have hm := u.schedCycleStart_marks hw
    generalize hv : u.schedCycleStart.discCycleStart s.timer.pendingPresent = v
    have hvs : v.sched = u.schedCycleStart.sched := by rw [← hv, State.discCycleStart_engineFrame]
    have hvc : v.line.schedClaim = u.schedCycleStart.line.schedClaim := by
      rw [← hv, State.discCycleStart_engineFrame]
    have hvt : v.timer = u.timer := by
      rw [← hv, State.discCycleStart_engineFrame, State.schedCycleStart_frame]
    have hvr : v.run = s.run := by
      rw [← hv, State.discCycleStart_engineFrame, State.schedCycleStart_frame, h4]
    have hut : u.schedCycleStart.timer = u.timer := by rw [State.schedCycleStart_frame]
    have hur : u.schedCycleStart.run = s.run := by rw [State.schedCycleStart_frame, h4]
    unfold State.cycleMarks at hm ⊢
    rw [hut, hur] at hm
    rw [hvt, hvr]
    dsimp only at hm ⊢
    split at hm
    · next hrun =>
      rw [if_pos hrun]
      refine State.Chosen.congr hm ?_ h2 rfl hvs.symm hvc.symm
      simp [State.updateEntries, h1, h2]
    · next hrun =>
      rw [if_neg hrun]
      refine ⟨fun n => ?_, by rw [hvc, hm.2, h5]⟩
      have := hm.1 n
      rw [State.entry, hvs]
      rw [State.entry] at this
      rw [this]
      simp [State.entry, State.updateEntries, h1, h2]
  unfold State.cycleStart
  dsimp only
  split <;> exact key _ rfl rfl rfl rfl rfl

end Sys2Proof.Machine
end

