-- ==== Sys2Proof/Laws/Line.lean ====
section
/-! SUPPORT. The Line Sequencer and the Cycle Timer: a bit time of a window, a frame about to be driven, an echo error, the
delivery of an outcome, the end of a transaction. -/

namespace Sys2Proof.Machine

open Sys2Proof

/-! ### A bit time of a window (R47, R54) -/

/-- In a window that has not expired, the end of a bit time takes one from the bit times left. -/
theorem CycleTimer.tick_left {t : CycleTimer} (ht : t.Lawful) (hw : t.window ≠ .noWindow) (he : t.expired = false) :
    t.tick.left + 1 = t.left := by
  have htc : t.tickCount ≠ 0 := by
    intro h
    simp [CycleTimer.expired, hw, h] at he
  have hp := (ht.counts hw).resolve_left htc
  have hleft : ∀ u : CycleTimer, u.window ≠ .noWindow →
      u.left = if u.tickCount = 0 then 0 else (u.tickCount - 1) * u.inForce.tickdiv + u.prescaler := by
    intro u hu
    unfold CycleTimer.left
    split
    · next h => exact absurd h hu
    · rfl
    · rfl
  unfold CycleTimer.tick
  rw [if_neg (by simp [hw, htc])]
  split
  · rw [hleft _ (by simpa using hw), hleft _ hw]
    simp only [htc, if_false]
    omega
  · split
    · next h1 h2 =>
      rw [hleft _ (by simpa using hw), hleft _ hw]
      simp [h2]
      omega
    · next h1 h2 =>
      rw [hleft _ (by simpa using hw), hleft _ hw]
      obtain ⟨k, hk⟩ : ∃ k, t.tickCount = k + 2 := ⟨t.tickCount - 2, by omega⟩
      have h3 : t.prescaler = 1 := by omega
      simp only [hk, h3]
      simp
      ring

/-- A tick moves the two counters and nothing else of the timer. -/
theorem CycleTimer.tick_frame (t : CycleTimer) :
    { t.tick with tickCount := t.tickCount, prescaler := t.prescaler } = t := by
  unfold CycleTimer.tick
  split
  · rfl
  · split
    · rfl
    · split <;> rfl

variable (s : State)

/-! ### Frames as built (R6, R10, R68) -/

/-- A frame as built holds its fields and the check over them, and its bytes go out in the order of R6. -/
theorem buildFrame_laidOut (header object : Byte) (payload : List Byte) :
    (buildFrame header object payload).laidOut header object payload := by
  simp only [Frame.laidOut, Frame.bytes, buildFrame, coveredBytes, syncByte, Word.hiByte, Word.loByte, List.cons_append,
    and_self]

/-- The record made at a grant is that of an attempt of the claim, with the claim's frame (R62, R68). -/
theorem Claim.record_eq (c : Claim) (data : List Byte) (rw : Nat) :
    ∃ f, c.sendsFrame data f ∧ c.record data rw = c.attemptRecord rw f := by
  refine ⟨c.frame data, ⟨fun h => ?_, fun h => ?_, fun h => ?_⟩, ?_⟩
  · unfold Claim.frame; rw [h]; exact buildFrame_laidOut _ _ _
  · unfold Claim.frame; rw [h]; exact buildFrame_laidOut _ _ _
  · unfold Claim.frame; rw [h]; exact buildFrame_laidOut _ _ _
  · simp only [Claim.record, Claim.attemptRecord, Claim.reservation, exchangeReservation]

/-! ### The Scheduler's choice at a boundary (R113) -/

theorem State.choiceDue_iff : s.choiceDue = true ↔ s.claimExceeds := by
  unfold State.choiceDue State.claimExceeds State.scheduling State.claimStale Claim.reservation exchangeReservation
  cases s.line.schedClaim <;> simp [and_assoc]

/-- The choice at a boundary: none is due and nothing changes, or it is made. -/
theorem State.chooseAtBoundary_cases :
    (¬ s.claimExceeds ∧ s.chooseAtBoundary = s) ∨
      (s.claimExceeds ∧ s.Chosen s.chooseAtBoundary ∧ s.butSchedule s.chooseAtBoundary) := by
  unfold State.chooseAtBoundary
  by_cases h : s.choiceDue = true
  · have h2 : s.scheduling = true := by
      simp only [State.choiceDue, Bool.and_eq_true] at h; exact h.1
    rw [if_pos h]
    exact .inr ⟨s.choiceDue_iff.1 h, s.choose_chosen h2, s.choose_frame⟩
  · rw [if_neg h]
    exact .inl ⟨fun hc => h (s.choiceDue_iff.2 hc), rfl⟩

/-- The choice at the boundary a bit time ends at: none is due and nothing changes; it is made; or it is left to the grant
decision of that boundary, and nothing but the count of free values changes. -/
theorem State.boundaryChoice_cases :
    (¬ s.claimExceeds ∧ s.boundaryChoice = s) ∨
      (s.claimExceeds ∧ ∃ n, let u := { s with freeIndex := n }
        (u.Chosen s.boundaryChoice ∧ u.butSchedule s.boundaryChoice) ∨ s.boundaryChoice = u) := by
  unfold State.boundaryChoice
  split
  · next h =>
    have h1 : s.choiceDue = true := by
      simp only [Bool.and_eq_true] at h; exact h.1
    have h2 : s.nextFree.scheduling = true := by
      simp only [State.choiceDue, Bool.and_eq_true] at h1; exact h1.1
    refine .inr ⟨s.choiceDue_iff.1 h1, s.freeIndex + 1, ?_⟩
    split
    · exact .inl ⟨s.nextFree.choose_chosen h2, s.nextFree.choose_frame⟩
    · exact .inr rfl
  · rcases s.chooseAtBoundary_cases with h | ⟨h1, h2⟩
    · exact .inl h
    · exact .inr ⟨h1, s.freeIndex, .inl h2⟩

/-! ### The ROUND claim placed at a round's end (R95) -/

/-- Whether the claim placed as a round ends is seen at this boundary shows in the boundary and the count of free values alone,
and it is open only where the decision of this boundary would grant the claim. -/
theorem State.roundClaimSeen_cases : s.roundClaimSeen = s ∨
    (s.run.state = .running ∧ s.timer.window = .openWin ∧ s.line.roundClaim = true ∧ 388 + s.rw ≤ s.timer.left ∧
      (s.roundClaimSeen = s.nextFree ∨ s.roundClaimSeen = s.nextFree.setBoundary false)) := by
  unfold State.roundClaimSeen
  split
  · next h =>
    simp only [Bool.and_eq_true, beq_iff_eq] at h
    obtain ⟨⟨-, hm⟩, hd⟩ := h
    have hr : s.run.state = .running := by
      simp only [State.mayGrant, Bool.and_eq_true, beq_iff_eq] at hm
      exact hm.1.1
    have hround : s.timer.window = .openWin ∧ s.line.roundClaim = true ∧ 388 + s.rw ≤ s.timer.left := by
      unfold State.decision at hd
      split at hd
      · cases hd
      · repeat' split at hd
        all_goals cases hd
      · next hw =>
        refine ⟨hw, ?_⟩
        unfold State.arbiter State.fits roundReservation at hd
        dsimp only at hd
        by_contra hn
        have : (s.line.roundClaim && decide (388 + s.rw ≤ s.timer.left)) = false := by
          simpa using hn
        rw [this] at hd
        cases hc : s.line.reqClaim with
        | none => simp [hc] at hd
        | some c =>
          simp only [hc] at hd
          split at hd <;> simp_all
    refine .inr ⟨hr, hround.1, hround.2.1, hround.2.2, ?_⟩
    split
    · exact .inl rfl
    · exact .inr rfl
  · exact .inl rfl

/-! ### Driving a frame (R64, R71, R72) -/

/-- With the line idle a frame is driven, and nothing else changes. -/
theorem State.driveFrame_idle (h : s.line.idleRun = 4) (r : Record) : s.driveFrame r =
    s.setRecord (some { r with phase := .sending, outcome := none, elapsed := 0, phaseTime := 0, offGrid := false }) := by
  simp [State.driveFrame, h]

/-- An echo error that is not the eighth in a row only counts. -/
theorem State.echoError_below (h : s.line.echoCount < 7) : s.echoError = { s with
    line := { s.line with
      echoCount := s.line.echoCount + 1, lineErrors := min (s.line.lineErrors + 1) 65535 } } := by
  have h1 : satSucc 8 s.line.echoCount = s.line.echoCount + 1 := by
    unfold satSucc; omega
  unfold State.echoError
  dsimp only
  rw [h1, if_neg (by omega)]
  rfl

/-- A frame about to be driven, but for the parts of a round whose failure is handed to the unit at once: it is driven, or
fails its idle check below the eighth echo error in a row. -/
theorem State.driveFrame_checked {r : Record} (h : s.line.idleRun = 4 ∨ s.line.echoCount < 7)
    (hr : ¬ (r.owner = .discovery ∧ r.part ≠ .contend)) : s.driveFrame r = { s with line := s.line.checked r } := by
  unfold State.driveFrame LineSequencer.checked
  by_cases hi : s.line.idleRun = 4
  · simp [hi, State.setRecord]
  · rw [if_neg hi, if_neg hi]
    unfold State.failFrame
    dsimp only
    rw [State.echoError_below _ (by simpa [State.setRecord] using h.resolve_left hi), if_neg hr]
    simp [State.setRecord, Record.close]

/-- The eighth in a row enters FAULTED from RUNNING and DRAINING (R72, R158). -/
theorem State.echoError_eighth (h : s.line.echoCount = 7) (hr : s.run.state = .running ∨ s.run.state = .draining) :
    s.echoError = { s with
      line := { s.line with echoCount := 8, lineErrors := min (s.line.lineErrors + 1) 65535 } }.enterFaulted := by
  have h1 : satSucc 8 s.line.echoCount = 8 := by rw [h]; rfl
  unfold State.echoError
  dsimp only
  rw [h1, if_pos ⟨rfl, hr⟩]
  rfl

/-! ### Outcomes (R76) -/

/-- What the Scheduler does with an outcome touches the schedule table, the mailboxes, its claim and MBX. -/
theorem State.schedOutcome_frame (n : Nat) (o : LineOutcome) (reply : Reply) : s.schedOutcome n o reply = { s with
    line := { s.line with schedClaim := (s.schedOutcome n o reply).line.schedClaim }
    sched := (s.schedOutcome n o reply).sched
    host := { s.host with sticky := { s.host.sticky with mbx := (s.schedOutcome n o reply).host.sticky.mbx } } } := by
  have hm : ∀ u : State, u.mailboxOutcome n o reply = { u with
      sched := (u.mailboxOutcome n o reply).sched
      host := { u.host with sticky := { u.host.sticky with mbx := (u.mailboxOutcome n o reply).host.sticky.mbx } } } := by
    intro u
    unfold State.mailboxOutcome
    dsimp only
    split
    · rfl
    · split
      · split <;> rfl
      · rfl
  unfold State.schedOutcome
  dsimp only
  rw [hm (s.setEntry n ((s.entry n).noteOutcome o reply s.timer.cycle))]
  split
  · rfl
  · split
    · rfl
    · rw [State.choose_frame]; rfl

/-- The outcome of an attempt reaches the Roster first, with the cycle number of that moment (R25, R76); no owner changes the
table after that. -/
theorem State.deliver_roster (r : Record) (o : LineOutcome) : (s.deliver r o).roster =
    s.roster.deliver (r.exchange == some .release) o r.dest s.timer.cycle := by
  unfold State.deliver
  dsimp only
  split
  · rw [State.schedOutcome_frame]; rfl
  · rw [State.reqOutcome_engineFrame]; rfl
  · rfl
  · rfl

/-- Outside DRAINING the line-free signal changes nothing (R156). -/
theorem State.lineFree_of_not_draining (h : s.run.state ≠ .draining) : s.lineFree = s := by
  simp [State.lineFree, h]

/-- The line-free signal never touches the Roster. -/
theorem State.lineFree_roster : s.lineFree.roster = s.roster := by
  unfold State.lineFree
  split
  · rw [State.reqLeave_engineFrame]; rfl
  · rfl

/-- The Roster at the end of an attempt for a schedule entry or a request (R25, R76). -/
theorem State.attemptEnds_roster {r : Record} {out : LineOutcome} (h : s.attemptEnds r out) :
    s.closingGapEnd.roster = s.roster.deliver (r.exchange == some .release) out r.dest s.timer.cycle := by
  obtain ⟨hr, ⟨o, ho⟩, hp, ht, hout⟩ := h
  have hd : (r.phase == .closing && r.due s.rw) = true := by simp [hp, Record.due, ht]
  unfold State.closingGapEnd State.onRecord
  rw [hr]
  dsimp only
  rw [if_pos hd]
  unfold State.gapEnd
  rw [ho]
  dsimp only
  rw [State.lineFree_roster, State.deliver_roster, hout]
  split <;> rfl

end Sys2Proof.Machine
end

