-- ==== Sys2Proof/Laws/Roster.lean ====
section
/-! SUPPORT. The station table and the change list: what replacing an entry does, what the lookup finds. -/

namespace Sys2Proof.Machine

open Sys2Proof

variable (r : Roster)

theorem stationAddress_iff (a : Nat) : stationAddress a = true ↔ 1 ≤ a ∧ a ≤ 60 := by simp [stationAddress]

theorem mem_stationAddresses (a : Nat) : a ∈ stationAddresses ↔ stationAddress a = true := by
  simp only [stationAddresses, List.mem_range'_1, stationAddress_iff]; omega

theorem Roster.entry_of_not_station {a : Nat} (h : stationAddress a = false) : r.entry a = {} := by
  simp [Roster.entry, h]

/-- An entry that is not FREE belongs to a station's address. -/
theorem Roster.station_of_entry {a : Nat} (h : (r.entry a).state ≠ .free) : stationAddress a = true := by
  by_contra hs
  exact h (by rw [r.entry_of_not_station (by simpa using hs)])

@[simp] theorem Roster.setEntry_changes (a : Nat) (e : StationEntry) : (r.setEntry a e).changes = r.changes := by
  unfold Roster.setEntry; split <;> rfl
@[simp] theorem Roster.setEntry_suspectAt (a : Nat) (e : StationEntry) : (r.setEntry a e).suspectAt = r.suspectAt := by
  unfold Roster.setEntry; split <;> rfl
@[simp] theorem Roster.setEntry_lostAt (a : Nat) (e : StationEntry) : (r.setEntry a e).lostAt = r.lostAt := by
  unfold Roster.setEntry; split <;> rfl
@[simp] theorem Roster.setEntry_discRetries (a : Nat) (e : StationEntry) :
    (r.setEntry a e).discRetries = r.discRetries := by
  unfold Roster.setEntry; split <;> rfl

theorem Roster.entry_setEntry_self {a : Nat} (h : stationAddress a = true) (e : StationEntry) :
    (r.setEntry a e).entry a = e := by
  have := (stationAddress_iff a).1 h
  simp only [Roster.entry, Roster.setEntry, h, if_true]
  exact Table.get_set_self _ (by omega) _ _

theorem Roster.entry_setEntry_ne {a b : Nat} (h : b ≠ a) (e : StationEntry) : (r.setEntry a e).entry b = r.entry b := by
  unfold Roster.setEntry
  split
  · next ha =>
    unfold Roster.entry
    split
    · next hb =>
      have := (stationAddress_iff a).1 ha
      have := (stationAddress_iff b).1 hb
      exact Table.get_set_ne _ (by omega) _ _
    · rfl
  · rfl

@[simp] theorem Roster.addChange_entry (a b : Nat) : (r.addChange a).entry b = r.entry b := by
  unfold Roster.addChange; split <;> rfl
@[simp] theorem Roster.addChange_suspectAt (a : Nat) : (r.addChange a).suspectAt = r.suspectAt := by
  unfold Roster.addChange; split <;> rfl
@[simp] theorem Roster.addChange_lostAt (a : Nat) : (r.addChange a).lostAt = r.lostAt := by
  unfold Roster.addChange; split <;> rfl
@[simp] theorem Roster.addChange_discRetries (a : Nat) : (r.addChange a).discRetries = r.discRetries := by
  unfold Roster.addChange; split <;> rfl

theorem Roster.addChange_changes {a : Nat} (h : stationAddress a = true) : (r.addChange a).changes = r.listed a := by
  unfold Roster.addChange Roster.listed
  by_cases ha : a ∈ r.changes <;> simp [ha, h]

/-- An entry replaced without listing it: everything else stays. -/
theorem Roster.setEntry_becomes {a : Nat} (h : stationAddress a = true) (e : StationEntry) :
    r.Becomes (r.setEntry a e) a e r.changes :=
  ⟨r.entry_setEntry_self h e, fun _ hb => r.entry_setEntry_ne hb e, by simp, by simp⟩

/-- An entry replaced and listed (R40): everything else stays. -/
theorem Roster.change_becomes {a : Nat} (h : stationAddress a = true) (e : StationEntry) :
    r.Becomes (r.change a e) a e (r.listed a) := by
  refine ⟨?_, fun b hb => ?_, ?_, ?_⟩
  · simp [Roster.change, r.entry_setEntry_self h e]
  · simp [Roster.change, r.entry_setEntry_ne hb e]
  · simp only [Roster.change, Roster.addChange_changes _ h, Roster.listed, Roster.setEntry_changes]
  · simp [Roster.change]

/-- What the lookup finds holds the identity (R24). -/
theorem Roster.lookup_some {i : Ident} {a : Nat} (h : r.lookup i = some a) :
    i ≠ 0 ∧ stationAddress a = true ∧ (r.entry a).state ≠ .free ∧ (r.entry a).identity = i := by
  unfold Roster.lookup at h
  split at h
  · exact absurd h (by simp)
  · next hi =>
    have hm := List.mem_of_find?_eq_some h
    have hp := List.find?_some h
    simp only [Bool.and_eq_true, bne_iff_ne, beq_iff_eq] at hp
    exact ⟨hi, (mem_stationAddresses a).1 hm, hp.1, hp.2⟩

/-- The lookup finds none exactly when no entry holds the identity (R24). -/
theorem Roster.lookup_none {i : Ident} (hi : i ≠ 0) :
    r.lookup i = none ↔ ∀ b, (r.entry b).state ≠ .free → (r.entry b).identity ≠ i := by
  unfold Roster.lookup
  rw [if_neg hi, List.find?_eq_none]
  constructor
  · intro h b hb hbi
    have := h b ((mem_stationAddresses b).2 (r.station_of_entry hb))
    simp [hb, hbi] at this
  · intro h b _ hp
    simp only [Bool.and_eq_true, bne_iff_ne, beq_iff_eq] at hp
    exact h b hp.1 hp.2

/-- In a lawful table the lookup finds the one entry that holds the identity (R24). -/
theorem Roster.Lawful.lookup_eq {r : Roster} (hr : r.Lawful) {i : Ident} {a : Nat} (hi : i ≠ 0)
    (ha : (r.entry a).state ≠ .free) (hai : (r.entry a).identity = i) : r.lookup i = some a := by
  cases h : r.lookup i with
  | none => exact absurd hai ((r.lookup_none hi).1 h a ha)
  | some b =>
    obtain ⟨_, _, hb, hbi⟩ := r.lookup_some h
    exact congrArg some (hr.distinct b a hb ha (hbi.trans hai.symm))

/-- The lowest FREE address (R32). -/
theorem Roster.lowestFree_some {a : Nat} (h : r.lowestFree = some a) :
    stationAddress a = true ∧ (r.entry a).state = .free := by
  refine ⟨(mem_stationAddresses a).1 (List.mem_of_find?_eq_some h), ?_⟩
  simpa using List.find?_some h

theorem Roster.lowestFree_none :
    r.lowestFree = none ↔ ∀ a, stationAddress a = true → (r.entry a).state ≠ .free := by
  simp [Roster.lowestFree, List.find?_eq_none, mem_stationAddresses]

/-- Below the lowest FREE address no entry is FREE (R32). -/
theorem Roster.lowestFree_eq {a : Nat} (ha : stationAddress a = true) (hf : (r.entry a).state = .free)
    (hlow : ∀ b, stationAddress b = true → b < a → (r.entry b).state ≠ .free) : r.lowestFree = some a := by
  have h60 := (stationAddress_iff a).1 ha
  have hsplit : stationAddresses = List.range' 1 (a - 1) ++ a :: List.range' (a + 1) (60 - a) := by
    have h1 : List.range' 1 60 = List.range' 1 (a - 1) ++ List.range' (1 + (a - 1)) (60 - (a - 1)) := by
      rw [List.range'_append_1]; congr 1; omega
    have h2 : List.range' (1 + (a - 1)) (60 - (a - 1)) = a :: List.range' (a + 1) (60 - a) := by
      have : 60 - (a - 1) = (60 - a) + 1 := by omega
      rw [this, List.range'_succ]; congr 1
      · omega
      · congr 1; omega
    rw [stationAddresses, h1, h2]
  have hnone : (List.range' 1 (a - 1)).find? (fun b => (r.entry b).state == .free) = none := by
    rw [List.find?_eq_none]
    intro b hb
    have hb' := List.mem_range'_1.1 hb
    simp [hlow b ((stationAddress_iff b).2 (by omega)) (by omega)]
  rw [Roster.lowestFree, hsplit, List.find?_append, hnone]
  simp [hf]

/-! ### The accepted THRESH_LOAD (R35) -/

/-- The addresses to list are those of the SUSPECT entries, whatever the rank (log 27). -/
theorem Roster.mem_suspects (rank : Nat → Nat) (a : Nat) : a ∈ r.suspects rank ↔ (r.entry a).state = .suspect := by
  simp only [Roster.suspects, List.mem_insertionSort, List.mem_filter, mem_stationAddresses, beq_iff_eq,
    and_iff_right_iff_imp]
  intro h
  exact r.station_of_entry (by simp [h])

theorem Roster.suspects_nodup (rank : Nat → Nat) : (r.suspects rank).Nodup := by
  have h := (List.nodup_range' (s := 1) (n := 60) (step := 1)).filter fun a => (r.entry a).state == .suspect
  exact (List.perm_insertionSort _ _).nodup_iff.2 h

/-- Several addresses listed one after another: the entries and the thresholds stay. -/
theorem Roster.foldl_addChange (as : List Nat) (r : Roster) :
    (∀ a, (as.foldl Roster.addChange r).entry a = r.entry a) ∧
    (as.foldl Roster.addChange r).suspectAt = r.suspectAt ∧ (as.foldl Roster.addChange r).lostAt = r.lostAt ∧
    (as.foldl Roster.addChange r).discRetries = r.discRetries := by
  induction as generalizing r with
  | nil => exact ⟨fun _ => rfl, rfl, rfl, rfl⟩
  | cons a as ih =>
    obtain ⟨h1, h2, h3, h4⟩ := ih (r.addChange a)
    exact ⟨fun b => by rw [List.foldl_cons, h1, r.addChange_entry], by rw [List.foldl_cons, h2, r.addChange_suspectAt],
      by rw [List.foldl_cons, h3, r.addChange_lostAt], by rw [List.foldl_cons, h4, r.addChange_discRetries]⟩

/-- Several stations' addresses listed one after another: those not on the list are appended, each once (R40). -/
theorem Roster.foldl_addChange_changes (as : List Nat) (r : Roster) (hs : ∀ a ∈ as, stationAddress a = true)
    (hn : as.Nodup) : (as.foldl Roster.addChange r).changes = r.changes ++ as.filter (· ∉ r.changes) := by
  induction as generalizing r with
  | nil => simp
  | cons a as ih =>
    obtain ⟨ha, hn⟩ := List.nodup_cons.1 hn
    rw [List.foldl_cons, ih _ (fun b hb => hs b (List.mem_cons_of_mem _ hb)) hn,
      Roster.addChange_changes _ (hs a List.mem_cons_self)]
    unfold Roster.listed
    by_cases h : a ∈ r.changes
    · simp [h]
    · have hf : as.filter (fun b => decide (b ∉ r.changes ++ [a])) = as.filter (fun b => decide (b ∉ r.changes)) := by
        refine List.filter_congr fun b hb => ?_
        have : b ≠ a := fun hba => ha (hba ▸ hb)
        simp [this]
      simp only [h, if_false, hf, List.filter_cons]
      simp

theorem Roster.loadThresholds_entry (x y z : Nat) (rank : Nat → Nat) (a : Nat) :
    (r.loadThresholds x y z rank).entry a = (r.entry a).rethresholded := by
  rw [Roster.loadThresholds, (Roster.foldl_addChange _ _).1]
  unfold Roster.entry
  split
  · next h =>
    have := (stationAddress_iff a).1 h
    exact Table.get_update _ _ (by omega) _
  · rfl

theorem Roster.loadThresholds_thresholds (x y z : Nat) (rank : Nat → Nat) :
    (r.loadThresholds x y z rank).suspectAt = x ∧ (r.loadThresholds x y z rank).lostAt = y ∧
    (r.loadThresholds x y z rank).discRetries = z :=
  (Roster.foldl_addChange _ _).2

theorem Roster.loadThresholds_changes (x y z : Nat) (rank : Nat → Nat) :
    (r.loadThresholds x y z rank).changes = r.changes ++ (r.suspects rank).filter (· ∉ r.changes) := by
  rw [Roster.loadThresholds, Roster.foldl_addChange_changes _ _ _ (r.suspects_nodup rank)]
  intro a ha
  exact r.station_of_entry (by simp [(r.mem_suspects rank a).1 ha])
/-! ### A lawful table with one entry in use -/

/-- A table whose one entry in use is `e`, at the thresholds of reset and with an empty change list. -/
def Roster.single (a : Nat) (e : StationEntry) : Roster := ({} : Roster).setEntry a e

theorem Roster.single_entry {a : Nat} (h : stationAddress a = true) (e : StationEntry) (b : Nat) :
    (Roster.single a e).entry b = if b = a then e else {} := by
  unfold Roster.single
  split
  · next hb => rw [hb, Roster.entry_setEntry_self _ h]
  · next hb =>
    rw [Roster.entry_setEntry_ne _ hb]
    simp [Roster.entry]

/-- Such a table is lawful when its entry is (R21, R24). -/
theorem Roster.single_lawful {a : Nat} (h : stationAddress a = true) {e : StationEntry} (hr : e.InRange)
    (hi : e.Identified)
    (hp : e.state = .reserved ∨ (e.state = .joining ∧ e.prior = .reserved) → e.pinned = true) :
    (Roster.single a e).Lawful := by
  have he := Roster.single_entry h e
  have h0 : StationEntry.InRange {} := by unfold StationEntry.InRange; decide
  have h0' : StationEntry.Identified {} := by unfold StationEntry.Identified; decide
  refine ⟨fun b => ?_, fun b => ?_, fun b => ?_, fun b c hb hc _ => ?_, ?_, ?_⟩
  · rw [he]; split <;> assumption
  · rw [he]; split <;> assumption
  · rw [he]; split
    · exact hp
    · simp
  · rw [he] at hb hc
    by_cases hba : b = a <;> by_cases hca : c = a <;> simp_all
  · simp [Roster.single]
  · simp [Roster.single]

end Sys2Proof.Machine
end

