-- ==== Sys2Proof/Tests/Slice0.lean ====
section
/-! SUPPORT. Tests: ill-formed commands, the manual's worked values, one step of each family, and for each statement with
hypotheses a state and operands that meet them. -/

namespace Sys2Proof.Tests

-- The theorems are elaborated one after another: many at once need more memory than the build is given.
set_option Elab.async false

open Sys2Proof Sys2Proof.Machine

/-! ## WellFormed refuses an ill-formed term for each of its checks -/

theorem test_wellFormed_unknown_code : wellFormed (.unknownCommand 0x20) = false := by decide
theorem test_wellFormed_own_row : wellFormed (.registerWrite 5 0x20) = false := by decide
theorem test_wellFormed_reply_bytes : wellFormed (.replyReceptionEnd [0] true) = false := by decide
theorem test_wellFormed_accepts : wellFormed (.unknownCommand 0x26) = true ∧ wellFormed (.registerWrite 6 0x20) = true := by
  decide

/-! ## The manual's values -/

/-- R10: the check of the nine digits. -/
theorem test_check_digits : crc [0x31, 0x32, 0x33, 0x34, 0x35, 0x36, 0x37, 0x38, 0x39] = 0x29B1 := by decide +kernel

/-- R6, section 12.6: a POLL of object 0x21 at address 9 has six bytes. -/
theorem test_poll_bytes : (pollFrame 9 0x21).bytes.take 4 = [0xC6, 0x09, 0x21, 0x00] ∧ (pollFrame 9 0x21).bits = 60 := by
  decide

/-- Section 12.6: the headers of WRITE, ASSIGN, BEACON and RELEASE. -/
theorem test_headers :
    (writeFrame 9 1 [2]).header = 0x49 ∧ (assignFrame 5 12).header = 0x80 ∧ (beaconFrame 7).header = 0xFF ∧
      (releaseFrame 12 1).header = 0xCC := by decide

/-- R16: the check value of the identity of class 0x0412 and serial 0x0000A3C5. -/
theorem test_identity_check : identCheck 0x04120000A3C5 = 0x7E := by decide

/-- R15: the reservations of the table. -/
theorem test_reservations :
    exchangeReservation 0 2 16 = 160 ∧ roundReservation 16 = 404 ∧ beaconReservation = 84 := by decide

/-- R4: a byte on the line is a dominant start bit, the data least significant bit first, a recessive stop bit. -/
theorem test_byte_levels : (List.range 10).map (byteLevel 0xC6) =
    [.dominant, .dominant, .recessive, .recessive, .dominant, .dominant, .dominant, .recessive, .recessive, .recessive] := by
  decide

/-- Section 12.1: the registers at reset. -/
theorem test_registers_reset :
    State.reset.readReg 0 = 0x7230 ∧ State.reset.readReg 21 = 0x0463 ∧ State.reset.readReg 2 = 0 := by decide

/-! ## States to start from -/

/-- OFF, right after INIT. -/
def off : State := { State.reset with run := { state := .off }, timer := { bitClock := true } }

/-- RUNNING in a scheduled window with the line idle, at a boundary. -/
def running : State := { off with
  run := { state := .running }
  timer := { bitClock := true, window := .sched, tickCount := 125, prescaler := 16 }
  line := { idleRun := 4, boundary := true } }

/-- RUNNING in an open window. -/
def opened : State := { running with timer := { running.timer with window := .openWin } }

def withEntry (s : State) (a : Nat) (e : StationEntry) : State := { s with roster := Roster.single a e }
def withArg (s : State) (v : Word) : State := { s with host := { s.host with arg := v } }

def station : StationEntry := { state := .active, identity := 0x04120000A3C5 }

/-- A READ entry of station 9, two bytes, every 4 cycles. -/
def readEntry : SchedEntry := { target := 9, object := 0x21, length := 2, period := 4 }
def writeEntry : SchedEntry := { readEntry with direction := 1 }

/-- A READ of station 9. -/
def readRequest : Request := { tag := 7, kind := .read, address := 9, object := 0x21, length := 2, retries := 1 }

/-- A granted attempt of the request. -/
def attempt (p : Phase) : Record := { (readRequest.claim 1 {}).record [] 16 with phase := p }
/-- A granted attempt of schedule entry 3. -/
def polled (p : Phase) : Record := { (readEntry.claim 3 1).record [] 16 with phase := p }
/-- An attempt of the request whose closing gap is over. -/
def ended (o : LineOutcome) : Record := { attempt .closing with phaseTime := 4, outcome := some o }

def withRecord (s : State) (r : Record) : State := { s with line := { s.line with record := some r } }

/-- A round whose slots are over, with the samples of an identity and a check. -/
def slotsOver (i : Ident) (k : Byte) : Record := { roundRecord 16 with
  phase := .receiving, part := .slots, phaseTime := 112, heard := i ++ k }

def sweep : Sweep := { tag := 3 }
def inRound (s : State) (rd : Round) : State := { s with disc := .inRound sweep rd }

/-! ## One step of each family -/

/-- R153: the end of initialisation. -/
theorem test_init_end : ∃ t, exec .initEnd State.reset = .next t ∧ t.run.state = .off ∧ t.timer.bitClock = true ∧
    t.eventWord = 0x0080 ∧ t.statusWord = 0x0001 := ⟨_, rfl, by decide⟩

/-- R154: START counts a cycle, opens the scheduled window and makes the beacon pending. -/
theorem test_start : ∃ t, exec .start off = .next t ∧ t.timer.cycle = 1 ∧ t.timer.left = 2000 ∧
    t.line.beaconPending = true ∧ t.host.sticky.cyc = true := ⟨_, rfl, by decide⟩

/-- R36, R40: PIN into a FREE entry. -/
theorem test_pin : ∃ t, exec .pin { off with host := { off.host with
      pinStage := wordTable 4 [9, 0x0412, 0x0000, 0xA3C5] } } = .next t ∧
    t.roster.entry 9 = { state := .reserved, pinned := true, identity := 0x04120000A3C5 } ∧ t.roster.changes = [9] :=
  ⟨_, rfl, by decide⟩

/-- R41: POP_CHANGE returns the oldest. -/
theorem test_pop_change : ∃ t, exec .popChange { off with roster := { changes := [7, 3] } } = .next t ∧
    t.host.resultVal = 7 ∧ t.roster.changes = [3] := ⟨_, rfl, by decide⟩

/-- R106, R107: an entry set and enabled answers its reservation, 124 + 10 L + RESP_WAIT. -/
theorem test_sched_enable : ∃ t, exec .schedEnable (withArg (off.setEntry 3 readEntry) 3) = .next t ∧
    t.host.result = .done ∧ t.host.resultVal = 160 ∧ (t.entry 3).status = .waiting := ⟨_, rfl, by decide⟩

/-- R179: an entry number is judged as the whole 16-bit value. -/
theorem test_sched_number : ∃ t, exec .schedSnap (withArg off 0x0100) = .next t ∧ t.host.result = .badArg :=
  ⟨_, rfl, by decide⟩

/-- R128: PUT takes the bytes in order. -/
theorem test_put : ∃ t, exec .put { withArg (off.setEntry 3 writeEntry) 3 with
      host := { off.host with arg := 3, putBuf := wordTable 17 [2, 0xABCD] } } = .next t ∧
    (t.mailbox 3).data = [0xAB, 0xCD] ∧ (t.mailbox 3).fresh = true := ⟨_, rfl, by decide⟩

/-- R125: TAKE of a full mailbox. -/
theorem test_take : ∃ t, exec .take (withArg ((off.setEntry 3 readEntry).setMailbox 3
      { data := [0xAB, 0xCD], fillCycle := 5, full := true }) 3) = .next t ∧
    t.host.takeBuf.cells.take 4 = [0x0203, 5, 0, 0xABCD] ∧ (t.mailbox 3).full = false := ⟨_, rfl, by decide⟩

/-- R134: SUBMIT answers the number of records in the queue. -/
theorem test_submit : ∃ t, exec .submit { off with host := { off.host with
      reqStage := wordTable 20 [7, 0x0100, 0x0209, 0x0021] } } = .next t ∧
    t.req.queue = [readRequest] ∧ t.host.resultVal = 1 := ⟨_, rfl, by decide⟩

/-- R146: CANCEL of a tag that nothing carries. -/
theorem test_cancel : ∃ t, exec .cancel (withArg off 9) = .next t ∧ t.host.result = .notFound := ⟨_, rfl, by decide⟩

/-- R167: the window index wraps after the last word of PIN_STAGE. -/
theorem test_window_wraps : ∃ t, exec (.winDataWrite 5) { off with host := { off.host with winSel := 6, winIndex := 3 } } =
    .next t ∧ t.host.winIndex = 0 ∧ t.host.pinStage.get 3 0 = 5 := ⟨_, rfl, by decide⟩

/-- R27: the third failure in a row makes an ACTIVE entry SUSPECT. -/
theorem test_suspect : ∃ t, exec .closingGapEnd { withRecord (withEntry opened 9 { station with failures := 2 })
      (ended .timeout) with req := { queue := [readRequest], head := .onLine, reservations := 1 } } = .next t ∧
    (t.roster.entry 9).state = .suspect ∧ t.roster.changes = [9] := ⟨_, rfl, by decide⟩

/-- R32: a known identity is admitted at the address that holds it. -/
theorem test_admit : ∃ t, exec .checkSlotsEnd (inRound (withEntry (withRecord opened (slotsOver 0x04120000A3C5 0x7E)) 9
      { station with state := .lost }) { phase := .check }) = .next t ∧
    (t.roster.entry 9).state = .joining ∧ (t.roster.entry 9).prior = .lost := ⟨_, rfl, by decide⟩

/-- R52, R118: after 125 ticks of 16 bit times the scheduled window ends and the open window has 2000 bt. -/
theorem test_window_end : ∃ t, exec .schedWindowEnd { running with timer := { running.timer with tickCount := 0 } } = .next t ∧
    t.timer.window = .openWin ∧ t.timer.left = 2000 := ⟨_, rfl, by decide⟩

/-- R17: a dominant sample in the first bit time of a slot is a 1. -/
theorem test_slot_sample : ∃ t, exec (.bitTimeEnd .dominant .dominant) (inRound (withRecord opened { roundRecord 16 with
      phase := .receiving, part := .slots }) { phase := .slots }) = .next t ∧
    t.line.record.map Record.heard = some 1 := ⟨_, rfl, by decide⟩

/-! ## States that meet the hypotheses of the statements -/

/-- Laws of small states, for the witnesses. -/
theorem station_lawful : (withEntry off 9 station).roster.Lawful :=
  Roster.single_lawful (a := 9) (e := station) (by decide) (by unfold StationEntry.InRange; decide)
    (by unfold StationEntry.Identified; decide) (by decide)

theorem running_timer_lawful : running.timer.Lawful := by
  refine ⟨?_, ?_, ?_, ?_⟩
  · unfold TimingSet.Valid; decide
  · unfold TimingSet.Valid; decide
  · decide
  · decide

theorem witness_StepRunsFrontCommand : (∃ s t, exec .start s = .next t) ∧ State.reset.pending = [] := ⟨⟨off, _, rfl⟩, rfl⟩

theorem witness_ResetPinHoldsBlock :
    off.run.resetAsserted = false ∧ (State.reset.resetBlocks true).run.resetAsserted = true := by decide

theorem witness_HostAccessWhileHeld :
    ((State.reset.resetBlocks true).run.resetAsserted = true ∧ writesCommand (.registerWrite 5 1) = true ∧
      writesRegister (.registerWrite 6 1) = true) ∧
    (State.reset.run.resetAsserted = false ∧ State.reset.run.state = .init ∧ writesCommand .start = true ∧
      writesRegister (.eventWrite 1) = true) := by decide

theorem witness_ResetAndInit :
    off.accepts ∧ State.reset.run.resetAsserted = false ∧ State.reset.run.state = .init := by decide

/-- A command was refused NOT_READY in INIT. -/
theorem witness_InitHoldsResetValues : ∃ s t : State, s.InitLawful ∧ s.host.result = .notReady ∧ step s = .next t := by
  refine ⟨{ State.reset.setResult .notReady 0 with pending := [.start] }, _, ⟨?_, ?_⟩, by decide, rfl⟩
  · decide
  · exact fun _ => ⟨rfl, .inr rfl, rfl⟩

theorem witness_StartEntersRunning :
    (off.run.resetAsserted = false ∧ off.run.state = .off ∧ off.disc = .idle ∧ off.req.queue = []) ∧
    ∃ (s t : State) (q : Request), s.run.resetAsserted = false ∧ s.run.state = .off ∧ exec .start s = .next t ∧
      s.disc = .idle ∧ s.req.queue = [q] ∧ s.req.head = .untaken ∧ s.req.completions.length + s.req.reservations < 16 ∧
      q.kind ≠ .discover ∧ q.targetPasses s.roster = true ∧
      requestReservation q.kind q.length t.rw ≤ t.timer.inForce.openBits :=
  ⟨by decide, { withEntry off 9 station with req := { queue := [readRequest] } }, _, readRequest, rfl, rfl, rfl, by decide⟩

theorem witness_StopDrains :
    ∃ s : State, s.run.resetAsserted = false ∧ s.run.state = .running ∧ s.line.record.isSome = true ∧
      s.req.head = .claimed ∧ s.disc = .sweeping sweep :=
  ⟨{ withRecord running (polled .sending) with req := { queue := [readRequest], head := .claimed }, disc := .sweeping sweep },
    by decide⟩

/-- A request waits for its retry behind a beacon. -/
theorem witness_StopDrains_retry :
    ∃ s : State, s.run.resetAsserted = false ∧ s.run.state = .running ∧ s.line.record.isSome = true ∧
      s.req.head = .retryWaiting .timeout 1 ∧ s.req.queue = [readRequest] ∧ s.disc.isSweeping = false :=
  ⟨{ withRecord running (beaconRecord 1) with
      req := { queue := [readRequest], head := .retryWaiting .timeout 1, reservations := 1 } }, by decide +kernel⟩

theorem witness_StopDrains_round :
    ∃ s : State, s.run.resetAsserted = false ∧ s.run.state = .running ∧ s.line.record.isSome = true ∧
      s.disc = .inRound sweep {} := ⟨inRound (withRecord running (roundRecord 16)) {}, by decide⟩

theorem witness_StopGoesOff :
    (running.run.resetAsserted = false ∧ running.run.state = .running ∧ running.line.record = none) ∧
    ∃ s : State, s.run.state = .checking ∧ s.run.resetAsserted = false ∧ s.line.record = none :=
  ⟨by decide, { off with run := { state := .checking, check := .armed } }, by decide⟩

/-- Nothing is in flight in RUNNING: a claimed head, a request that waits for its retry beside a sweep that waits, and entries
DUE, HELD and waiting for a retry. -/
theorem witness_StopGoesOff_owners :
    let common := fun s : State => s.run.resetAsserted = false ∧ s.run.state = .running ∧ s.line.record = none
    let claimed := { running with req := { queue := [readRequest], head := .claimed, reservations := 1 } }
    let waits := { running with
      req := { queue := [readRequest], head := .retryWaiting .timeout 1, reservations := 2 }, disc := .sweeping sweep }
    (common claimed ∧ claimed.req.head = .claimed) ∧
    (common waits ∧ waits.req.head = .retryWaiting .timeout 1 ∧ waits.req.queue = [readRequest] ∧ waits.disc = .sweeping sweep) ∧
    ∀ st ∈ [SchedStatus.due, .held, .inFlight],
      let s := running.setEntry 3 { readEntry with status := st }
      common s ∧ (s.entry 3).status = st := by decide +kernel

/-- The closing gap of each owner's frame that drew the eighth echo error. -/
theorem witness_StopGoesOff_gap :
    let common := fun (s : State) (r : Record) => s.run.resetAsserted = false ∧ s.run.state = .faulted ∧
      s.line.record = some r ∧ r.phase = .closing ∧ r.outcome = some .lineError
    let failed := fun r : Record => r.close (some .lineError) true
    let faulted := fun r : Record => withRecord { off with run := { state := .faulted } } (failed r)
    (common (faulted (beaconRecord 1)) (failed (beaconRecord 1)) ∧ (failed (beaconRecord 1)).owner = .beacon) ∧
    (∃ s, common s (failed (polled .sending)) ∧ (failed (polled .sending)).owner = .claim (.scheduler 3) ∧
      (s.entry 3).status = .inFlight) ∧
    (∃ s, common s (failed (attempt .sending)) ∧ (failed (attempt .sending)).owner = .claim (.request 7) ∧
      s.req.queue = [readRequest]) ∧
    ∃ s, common s (failed (roundRecord 16)) ∧ (failed (roundRecord 16)).owner = .discovery ∧
      (failed (roundRecord 16)).part = .contend ∧ s.disc = .inRound { sweep with faultSeen := true } {} :=
  ⟨by decide +kernel,
    ⟨(withRecord { off with run := { state := .faulted } } ((polled .sending).close (some .lineError) true)).setEntry 3
        { readEntry with status := .inFlight, attempt := 1 }, by decide +kernel⟩,
    ⟨{ withRecord { off with run := { state := .faulted } } ((attempt .sending).close (some .lineError) true) with
        req := { queue := [readRequest], head := .onLine, reservations := 1 } }, by decide +kernel⟩,
    ⟨{ withRecord { off with run := { state := .faulted } } ((roundRecord 16).close (some .lineError) true) with
        disc := .inRound { sweep with faultSeen := true } {} }, by decide +kernel⟩⟩

theorem witness_HaltCutsToOff :
    (running.run.resetAsserted = false ∧ running.run.state = .running ∧ running.line.record = none) ∧
    ∃ s : State, s.run.resetAsserted = false ∧ s.run.state = .running ∧ s.line.record = some (attempt .receiving) ∧
      (attempt .receiving).owner = .claim (.request 7) ∧ (attempt .receiving).phase ≠ .closing ∧
      s.req.queue = [readRequest] :=
  ⟨by decide, { withRecord opened (attempt .receiving) with req := { queue := [readRequest], head := .onLine } }, by decide +kernel⟩

/-- The beacon, and nothing, in flight beside an owner that waits: a claimed head, a request that waits for its retry, a sweep,
and entries DUE, HELD and waiting for a retry. -/
theorem witness_HaltCutsToOff_owners :
    let common := fun s : State => s.run.resetAsserted = false ∧ s.run.state = .running
    ∀ s ∈ [running, withRecord running (beaconRecord 1)],
      (s.line.record = none ∨ ∃ r, s.line.record = some r ∧ r.owner = .beacon) ∧
      (let claimed := { s with req := { queue := [readRequest], head := .claimed, reservations := 1 } }
       common claimed ∧ claimed.req.head = .claimed) ∧
      (let waits := { s with
         req := { queue := [readRequest], head := .retryWaiting .timeout 1, reservations := 2 }, disc := .sweeping sweep }
       common waits ∧ waits.req.head = .retryWaiting .timeout 1 ∧ waits.req.queue = [readRequest] ∧
         waits.disc = .sweeping sweep) ∧
      ∀ st ∈ [SchedStatus.due, .held, .inFlight],
        let u := s.setEntry 3 { readEntry with status := st }
        common u ∧ (u.entry 3).status = st ∧ u.entryOnLine 3 = false := by
  intro common s hs
  simp only [List.mem_cons, List.not_mem_nil, or_false] at hs
  obtain rfl | rfl := hs
  · exact ⟨.inl rfl, by decide +kernel⟩
  · exact ⟨.inr ⟨_, rfl, rfl⟩, by decide +kernel⟩

/-- Attempts of a request and of a schedule entry, READ and WRITE, cut while the frame is sent and in the closing gap. -/
theorem witness_HaltCutsToOff_attempts :
    let cut := fun (r : Record) (out : LineOutcome) => if r.phase = .closing then r.outcome = some out else out = .aborted
    (let s := fun r => { withRecord opened r with req := { queue := [readRequest], head := .onLine, reservations := 1 } }
     ∀ c ∈ [(attempt .sending, LineOutcome.aborted), (ended .ok, .ok), (ended .timeout, .timeout)],
      (s c.1).run.resetAsserted = false ∧ (s c.1).run.state = .running ∧ (s c.1).line.record = some c.1 ∧
        c.1.owner = .claim (.request 7) ∧ (s c.1).req.queue = [readRequest] ∧ cut c.1 c.2) ∧
    (let closing := fun o => { polled .closing with outcome := some o }
     ∀ e ∈ [readEntry, writeEntry],
      ∀ c ∈ [(polled .sending, LineOutcome.aborted), (closing .ok, .ok), (closing .checkError, .checkError)],
        let s := (withRecord running c.1).setEntry 3 { e with status := .inFlight, attempt := 1 }
        s.run.resetAsserted = false ∧ s.run.state = .running ∧ s.line.record = some c.1 ∧
          c.1.owner = .claim (.scheduler 3) ∧ (s.entry 3).status = .inFlight ∧ cut c.1 c.2) := by decide +kernel

/-- A round cut in ASSIGN_WAIT with its JOINING entry, one that saw a fault, and one whose CONTEND frame failed. -/
theorem witness_HaltCutsToOff_rounds :
    (let r := { roundRecord 16 with part := .assign }
     let s := withEntry (withRecord { opened with disc := .inRound sweep { phase := .assignWait, address := 9 } } r) 9
       { station with state := .joining }
     s.run.resetAsserted = false ∧ s.run.state = .running ∧ s.line.record = some r ∧ r.owner = .discovery ∧
      s.disc = .inRound sweep { phase := .assignWait, address := 9 } ∧ (s.roster.entry 9).state = .joining) ∧
    (let r := (roundRecord 16).close (some .lineError) true
     let s := { withRecord { off with run := { state := .faulted } } r with
       disc := .inRound { sweep with faultSeen := true } {} }
     s.run.resetAsserted = false ∧ s.run.state = .faulted ∧ s.line.record = some r ∧ r.owner = .discovery ∧
      r.part = .contend ∧ r.outcome = some .lineError ∧ s.disc = .inRound { sweep with faultSeen := true } {}) := by
  decide +kernel

theorem witness_ResumeAndStuckCheck :
    (∃ s : State, s.run.resetAsserted = false ∧ s.run.state = .faulted) ∧
    (∃ s : State, s.run.state = .checking ∧ s.run.check = .sampling 31) ∧
    (∃ s : State, s.run.state = .checking ∧ s.run.check = .dominant) :=
  ⟨⟨{ off with run := { state := .faulted } }, by decide⟩,
    ⟨{ off with run := { state := .checking, check := .sampling 31 } }, by decide⟩,
    ⟨{ off with run := { state := .checking, check := .dominant } }, by decide⟩⟩

theorem witness_ClearCheckRuns :
    ∃ s : State, s.run.state = .checking ∧ s.run.check = .sampling 32 ∧ 32 ≤ 32 ∧ s.disc = .idle ∧ s.req.queue = [] :=
  ⟨{ off with run := { state := .checking, check := .sampling 32 } }, by decide⟩

theorem witness_RunCommandsRefused :
    (off.accepts ∧ off.run.state = .off ∧ off.run.state ≠ .faulted) ∧ (running.accepts ∧ running.run.state ≠ .off) ∧
    ∃ s : State, s.accepts ∧ s.run.state = .draining :=
  ⟨by decide, by decide, { running with run := { state := .draining } }, by decide⟩

/-- RUNNING in a scheduled window with nothing in flight meets the laws of the run states. -/
theorem running_runLawful : { running with pending := [.stop] }.RunLawful := by
  constructor <;> first | decide | simp [running, off, State.reset, RunState.faulty]

theorem witness_RunStateLaw : ∃ s t : State, s.RunLawful ∧ step s = .next t := ⟨_, _, running_runLawful, rfl⟩

theorem witness_TimingLoadChecks : off.accepts := by decide

theorem witness_OpenExpiryStartsCycle :
    ∃ s : State, s.timer.window = .openWin ∧ s.timer.tickCount = 0 ∧ s.timer.pendingPresent = false :=
  ⟨{ opened with timer := { opened.timer with tickCount := 0 } }, by decide⟩

/-- A choice that skips entry 2, a WRITE with nothing to send, and places the claim of entry 3, both DUE (R113, R114). -/
def choosing : State :=
  ((withEntry running 9 station).setEntry 2 { writeEntry with status := .due }).setEntry 3 { readEntry with status := .due }

theorem witness_Chosen :
    choosing.scheduling = true ∧ (∃ t, t = choosing.choose ∧ t.line.schedClaim = some (readEntry.claim 3 1) ∧
      (t.entry 2).status = .waiting ∧ (t.entry 2).skipped = 1 ∧ (t.entry 3).status = .due) ∧
    (choosing.ready 2 ∧ ¬ choosing.sends 2 ∧ choosing.ready 3 ∧ choosing.sends 3) := by
  refine ⟨by decide +kernel, ⟨_, rfl, by decide +kernel⟩, ?_⟩
  rw [State.ready_iff, State.sends_iff, State.ready_iff, State.sends_iff]
  decide +kernel

/-- Every line of the table of R112, and STARVED: entries of 2 bytes in a window of 2000 bt, and in one of 100 bt. -/
theorem witness_DueMarkTable :
    (∀ st ∈ [SchedStatus.waiting, .due, .held], ∀ n ∈ [0, 1],
      let e := { readEntry with status := st, countdown := n }
      e.enabled = true ∧ e.status ≠ .inFlight ∧ e.reservation 16 ≤ ({} : TimingSet).schedBits) ∧
    ({} : TimingSet).respWait = 16 ∧
    (let t : TimingSet := { schedLen := 100, tickdiv := 1 }
     t.schedBits < { readEntry with status := .due }.reservation t.respWait) := by decide

theorem witness_CountdownDuePoints :
    let e := { readEntry with status := .waiting, countdown := 3 }
    e.enabled = true ∧ e.reservation 16 ≤ ({} : TimingSet).schedBits ∧ e.countdown < e.period.toNat := by decide

theorem witness_ScheduledWindowEnds :
    let t := { running.timer with tickCount := 0 }
    (∃ s : State, s.timer = t ∧ t.window = .sched ∧ t.tickCount = 0 ∧ s.req.head = .untaken) ∧
    (∃ s : State, s.timer = t ∧ s.req.queue = [readRequest] ∧ s.req.head = .claimed ∧
      readRequest.targetPasses s.roster = true ∧ s.tooLong readRequest = false) ∧
    (∃ s : State, s.timer = t ∧ s.req.queue = [readRequest] ∧ s.req.head = .claimed ∧
      readRequest.targetPasses s.roster = false) ∧
    (∃ s : State, s.timer.window = .sched ∧ s.timer.tickCount = 0 ∧ s.req.queue = [readRequest] ∧ s.req.head = .claimed ∧
      readRequest.targetPasses s.roster = true ∧ s.tooLong readRequest = true) ∧
    (∃ s : State, s.timer = t ∧ s.req.queue = [readRequest] ∧ s.req.head = .retryWaiting .timeout 1 ∧
      readRequest.targetPasses s.roster = true ∧ s.tooLong readRequest = false) ∧
    (∃ s : State, s.timer = t ∧ s.req.queue = [readRequest] ∧ s.req.head = .retryWaiting .timeout 1 ∧
      readRequest.targetPasses s.roster = false) :=
  ⟨⟨{ running with timer := { running.timer with tickCount := 0 } }, by decide⟩,
    ⟨{ withEntry running 9 station with
        timer := { running.timer with tickCount := 0 }, req := { queue := [readRequest], head := .claimed } }, by decide⟩,
    ⟨{ running with
        timer := { running.timer with tickCount := 0 }, req := { queue := [readRequest], head := .claimed } }, by decide⟩,
    ⟨{ withEntry running 9 station with
        timer := { running.timer with tickCount := 0, inForce := { openLen := 1 } }
        req := { queue := [readRequest], head := .claimed } }, by decide⟩,
    ⟨{ withEntry running 9 station with
        timer := { running.timer with tickCount := 0 }
        req := { queue := [readRequest], head := .retryWaiting .timeout 1 } }, by decide⟩,
    ⟨{ running with
        timer := { running.timer with tickCount := 0 }
        req := { queue := [readRequest], head := .retryWaiting .timeout 1 } }, by decide⟩⟩

theorem witness_BitTimeEnds :
    (running.mayTick .recessive = true ∧ running.timer.window ≠ .noWindow ∧ running.line.record = none ∧
      running.line.schedClaim = none) ∧
    running.timer.Lawful ∧
    (∃ s : State, s.timer.expired = true) ∧ (∃ s : State, s.lineDue = true) ∧ State.reset.timer.bitClock = false :=
  ⟨by decide, running_timer_lawful, ⟨{ running with timer := { running.timer with tickCount := 0 } }, by decide⟩,
    ⟨withRecord running (ended .ok), by decide⟩, by decide⟩

/-- A bit time may end in the slots, in an even and an odd bit time and in the last; in each state of the line check. -/
theorem witness_BitTimeEnds_record :
    (∀ n ∈ [0, 1, 95],
      let r := { roundRecord 16 with phase := .receiving, part := .slots, phaseTime := n }
      let s := inRound (withRecord opened r) { phase := .slots }
      s.mayTick .recessive = true ∧ s.line.record = some r ∧ s.disc = .inRound sweep { phase := .slots }) ∧
    (∀ c ∈ [CheckProgress.armed, .sampling 31],
      let s := { off with run := { state := .checking, check := c } }
      s.mayTick .dominant = true ∧ s.mayTick .recessive = true) := by decide +kernel

/-- The Scheduler's claim exceeds the bit times left once this bit time is over; and one that exceeds them at the present
boundary, where the decision that comes first is awaited. -/
theorem witness_BitTimeEnds_choice :
    let s := { running with
      timer := { running.timer with tickCount := 10 }
      line := { running.line with boundary := false, schedClaim := some (readEntry.claim 3 1) } }
    (s.mayTick .recessive = true ∧ { s with timer := s.timer.tick }.claimExceeds) ∧
    { s with line := { s.line with boundary := true }, timer := s.timer.tick }.grantDue = true := by
  dsimp only
  rw [← State.choiceDue_iff]
  decide +kernel

theorem witness_TimerAndCountsLaw : ∃ s t : State, s.timer.Lawful ∧ s.LineCountsLawful ∧ step s = .next t :=
  ⟨{ running with pending := [.bitTimeEnd .recessive .recessive] }, _, running_timer_lawful, by
    unfold State.LineCountsLawful; decide, rfl⟩

/-- RUNNING with the beacon pending. -/
def beaconWaits : State := { running with line := { running.line with beaconPending := true } }

theorem witness_GrantFits : ∃ (c : Instr) (s t : State) (r : Record), s.line.record = none ∧ exec c s = .next t ∧
    t.line.record = some r := ⟨.grantDecision, beaconWaits, _, beaconRecord 0, by decide, rfl, by decide +kernel⟩

theorem witness_ScheduledWindowGrants :
    let common := fun s : State => s.run.state = .running ∧ s.line.record = none ∧ s.line.boundary = true ∧
      s.timer.window = .sched ∧ s.timer.expired = false
    (∃ s, common s ∧ s.line.beaconPending = true ∧ 84 ≤ s.timer.left ∧ s.line.idleRun = 4) ∧
    (∃ s, common s ∧ s.line.beaconPending = true ∧ 84 ≤ s.timer.left ∧ s.line.idleRun ≠ 4 ∧ s.line.echoCount < 7) ∧
    (∀ idle ∈ [0, 4], ∃ (s : State) (c : Claim), common s ∧ s.line.beaconPending = false ∧ s.line.idleRun = idle ∧
      s.line.echoCount < 7 ∧ s.line.schedClaim = some c ∧ c.owner = .scheduler 3 ∧ c.reservation s.rw ≤ s.timer.left) ∧
    (∃ (s : State) (c : Claim), common s ∧ s.line.beaconPending = false ∧ s.line.schedClaim = some c ∧
      s.timer.left < 124 + 10 * (c.lc + c.lr) + s.rw) ∧
    (common running ∧ running.line.beaconPending = false ∧ running.line.schedClaim = none) :=
  ⟨⟨beaconWaits, by decide⟩, ⟨{ beaconWaits with line := { beaconWaits.line with idleRun := 0 } }, by decide⟩,
    fun idle h => ⟨{ running with line := { running.line with schedClaim := some (readEntry.claim 3 1), idleRun := idle } },
      readEntry.claim 3 1, by
        simp only [List.mem_cons, List.not_mem_nil, or_false] at h
        rcases h with rfl | rfl <;> decide⟩,
    ⟨{ running with
        timer := { running.timer with tickCount := 10, prescaler := 15 }
        line := { running.line with schedClaim := some (readEntry.claim 3 1) } }, readEntry.claim 3 1, by decide⟩,
    by decide⟩

theorem witness_ArbiterAlternates :
    let common := fun s : State => s.run.state = .running ∧ s.line.record = none ∧ s.line.boundary = true ∧
      s.timer.window = .openWin ∧ s.timer.expired = false
    (∃ (s : State) (c : Claim), common s ∧ s.line.reqClaim = some c ∧ c.reservation s.rw ≤ s.timer.left ∧
      s.line.roundClaim = true ∧ 388 + s.rw ≤ s.timer.left ∧ s.line.lastGrant = .discovery ∧ s.line.idleRun = 4) ∧
    (∃ (s : State) (c : Claim), common s ∧ s.line.reqClaim = some c ∧ c.reservation s.rw ≤ s.timer.left ∧
      s.disc = .sweeping sweep ∧ s.line.roundClaim = true ∧ 388 + s.rw ≤ s.timer.left ∧ s.line.lastGrant = .request ∧
      s.line.idleRun ≠ 4 ∧ s.line.echoCount < 7) ∧
    (∃ s, common s ∧ s.line.reqClaim = none ∧ s.line.roundClaim = false) :=
  ⟨⟨{ opened with line := { opened.line with reqClaim := some (readRequest.claim 1 {}), roundClaim := true } },
      readRequest.claim 1 {}, by decide⟩,
    ⟨{ opened with
        disc := .sweeping sweep
        line := { opened.line with
          reqClaim := some (readRequest.claim 1 {}), roundClaim := true, lastGrant := .request, idleRun := 3 } },
      readRequest.claim 1 {}, by decide⟩,
    ⟨opened, by decide⟩⟩

theorem witness_EchoMismatchFails :
    (∃ (s : State) (r : Record), s.line.record = some r ∧ r.owner ≠ .discovery ∧ r.phase = .sending ∧
      r.phaseTime < r.frame.bits ∧ r.frame.level r.phaseTime ≠ .recessive ∧ s.line.echoCount < 7) ∧
    (∃ (s : State) (r : Record), s.line.record = some r ∧ r.owner = .discovery ∧ r.part = .assign ∧ r.phase = .sending ∧
      r.phaseTime < r.frame.bits ∧ r.frame.level r.phaseTime ≠ .recessive ∧ s.line.echoCount < 7 ∧
      s.disc = .inRound sweep { phase := .assignWait, address := 9 }) ∧
    (∃ (s : State) (r : Record), s.line.record = some r ∧ r.owner ≠ .discovery ∧ r.phase = .sending ∧
      r.phaseTime < r.frame.bits ∧ r.frame.level r.phaseTime ≠ .recessive ∧ s.line.echoCount = 7 ∧
      s.run.state = .running) :=
  ⟨⟨withRecord opened (attempt .sending), attempt .sending, by decide +kernel⟩,
    ⟨inRound (withRecord opened { roundRecord 16 with part := .assign, frame := assignFrame 5 9 })
        { phase := .assignWait, address := 9 }, { roundRecord 16 with part := .assign, frame := assignFrame 5 9 }, by decide +kernel⟩,
    ⟨{ opened with line := { opened.line with record := some (attempt .sending), echoCount := 7 } }, attempt .sending,
      by decide +kernel⟩⟩

/-- The eighth echo error in a row: on a RELEASE frame and on a CONTEND frame of a round, beside a sweep that waits, and at
a failed idle check. -/
theorem witness_EchoMismatchFails_eighth :
    let eighth := fun (s : State) (r : Record) => s.line.record = some r ∧ r.phase = .sending ∧ r.phaseTime < r.frame.bits ∧
      r.frame.level r.phaseTime ≠ .recessive ∧ s.line.echoCount = 7 ∧ s.run.state = .running
    let at7 := fun s : State => { s with line := { s.line with echoCount := 7 } }
    let part := { roundRecord 16 with part := .release, frame := releaseFrame 9 1 }
    (eighth (at7 (inRound (withRecord opened part) { phase := .closing, address := 9 })) part ∧ part.owner = .discovery ∧
      part.part ≠ .contend) ∧
    eighth (at7 (inRound (withRecord opened (roundRecord 16)) {})) (roundRecord 16) ∧
    eighth (at7 { withRecord opened (attempt .sending) with disc := .sweeping sweep }) (attempt .sending) ∧
    (let s := { beaconWaits with line := { beaconWaits.line with idleRun := 3 } }
     ∃ t r, s.line.record = none ∧ exec .grantDecision s = .next t ∧ t.line.record = some r ∧ s.line.idleRun ≠ 4) ∧
    (let s := at7 { beaconWaits with line := { beaconWaits.line with idleRun := 3 } }
     ∃ t r, s.line.record = none ∧ exec .grantDecision s = .next t ∧ t.line.record = some r ∧ s.line.idleRun ≠ 4 ∧
       s.line.echoCount = 7) :=
  ⟨by decide +kernel, by decide +kernel, by decide +kernel,
    ⟨_, { beaconRecord 0 with phase := .closing, outcome := some .lineError }, by decide, rfl, by decide +kernel⟩,
    ⟨_, { beaconRecord 0 with phase := .closing, outcome := some .lineError }, by decide, rfl, by decide +kernel⟩⟩

/-- The eighth echo error in a row, on a beacon, beside a claimed head, a request that waits for its retry, and a sweep that
waits. -/
theorem witness_EchoMismatchFails_owners :
    let r := beaconRecord 1
    let s := withRecord { running with line := { running.line with echoCount := 7 } } r
    let claimed := { s with req := { queue := [readRequest], head := .claimed, reservations := 1 } }
    let waits := { s with
      req := { queue := [readRequest], head := .retryWaiting .timeout 1, reservations := 2 }, disc := .sweeping sweep }
    (s.line.record = some r ∧ r.phase = .sending ∧ r.phaseTime < r.frame.bits ∧ r.frame.level r.phaseTime ≠ .recessive ∧
      r.owner ≠ .discovery ∧ s.line.echoCount = 7 ∧ s.run.state = .running) ∧
    (claimed.line = s.line ∧ claimed.run = s.run ∧ claimed.req.head = .claimed) ∧
    (waits.line = s.line ∧ waits.run = s.run ∧ waits.req.head = .retryWaiting .timeout 1 ∧
      waits.req.queue = [readRequest] ∧ waits.disc = .sweeping sweep) := by decide +kernel

theorem witness_SendingAndWaitingEnd :
    (let r := { attempt .sending with phaseTime := 60 }
     r.phase = .sending ∧ r.frame.bits ≤ r.phaseTime ∧ (withRecord opened r).line.record = some r) ∧
    (let r := { attempt .sending with phaseTime := 59 }
     r.phase = .sending ∧ r.phaseTime < r.frame.bits ∧ (withRecord opened r).line.record = some r) ∧
    (let r := { attempt .waiting with phaseTime := 16 }
     r.phase = .waiting ∧ r.phaseTime = (withRecord opened r).rw ∧ (withRecord opened r).line.record = some r) ∧
    (let r := { attempt .waiting with phaseTime := 17 }
     r.phase = .waiting ∧ (withRecord opened r).rw < r.phaseTime ∧ (withRecord opened r).line.record = some r) ∧
    (attempt .waiting).phaseTime < (withRecord opened (attempt .waiting)).rw := by decide +kernel

/-- The frames that open the response wait, and those that do not. -/
theorem witness_SendingAndWaitingEnd_frames :
    let sent := fun r : Record => r.phase = .sending ∧ r.frame.bits ≤ r.phaseTime
    (∀ x ∈ [Exchange.poll, .write, .release],
      let r := { attempt .sending with phaseTime := 400, exchange := some x }
      sent r ∧ r.part = .single ∧ r.exchange = some x) ∧
    (let r := { roundRecord 16 with phaseTime := 400, part := .assign, frame := assignFrame 5 9 }
     sent r ∧ r.part = .assign) ∧
    (let r := { beaconRecord 1 with phaseTime := 400 }
     sent r ∧ r.part = .single ∧ r.exchange = none ∧ r.owner ≠ .discovery) ∧
    (∀ x ∈ [(Part.contend, contendFrame), (.restart, restartFrame), (.release, releaseFrame 9 1)],
      let r := { roundRecord 16 with phaseTime := 400, part := x.1, frame := x.2 }
      sent r ∧ r.part ≠ .assign ∧ r.part ≠ .single ∧ r.owner = .discovery) := by decide +kernel

/-- A byte as sampled: start bit dominant, stop bit recessive. -/
def sampled (bs : List Byte) : List RxByte := bs.map fun b => (1#1 ++ b ++ 0#1 : BitVec (1 + 8 + 1))

/-- The reply of station 9 to the READ: two data bytes. -/
def goodReply : List RxByte := sampled (buildFrame (headerByte 0 9) 0x21 [0xAB, 0xCD]).bytes

theorem witness_AttemptClassified :
    let deadline := fun r : Record => r.frame.bits + (withRecord opened r).rw + 10 * (6 + r.lr)
    (let r := { attempt .waiting with phaseTime := 16 }
     r.owner = .claim (.request 7) ∧ r.phase = .waiting ∧ (withRecord opened r).rw ≤ r.phaseTime) ∧
    (attempt .waiting).phaseTime < (withRecord opened (attempt .waiting)).rw ∧
    (let r := { attempt .receiving with elapsed := 156 }
     r.phase = .receiving ∧ r.part ≠ .slots ∧ deadline r ≤ r.elapsed) ∧
    (let r := { attempt .receiving with elapsed := 155 }
     r.phase = .receiving ∧ r.part ≠ .slots ∧ r.elapsed < deadline r) ∧
    (∀ end_ ∈ [(80, true), (77, false), (83, true)],
      let r := { attempt .receiving with elapsed := 150, phaseTime := end_.1 }
      let n := goodReply.length
      n = 6 + rxLength goodReply ∧ r.elapsed < deadline r ∧
        20 * n ≤ 2 * r.phaseTime + (n - 1) + (if end_.2 then 0 else 1) ∧
        2 * r.phaseTime ≤ 20 * n + (n - 1) + (if r.offGrid then 1 else 0)) ∧
    ¬ (goodReply.drop 1).length = 6 + rxLength (goodReply.drop 1) := by decide

/-- A reply that fails each of the checks in turn, and one that passes, for a READ and for a PROBE. -/
theorem witness_ReplyJudged :
    let r := attempt .receiving
    let from12 := sampled (buildFrame (headerByte 0 12) 0x21 []).bytes
    let object5 := sampled (buildFrame (headerByte 0 9) 5 []).bytes
    let long := sampled (buildFrame (headerByte 0 9) 0x21 [1, 2, 3]).bytes
    let busy := sampled (buildFrame (headerByte 1 9) 0x21 []).bytes
    let sound := fun b => rxFramed b = true ∧ rxCheckPasses b = true
    ¬ sound (sampled [0xC6, 9, 0x21, 0, 0, 0]) ∧
    (sound from12 ∧ some (rxSource from12) ≠ r.source) ∧
    (sound object5 ∧ some (rxSource object5) = r.source ∧ rxObject object5 ≠ r.frame.object) ∧
    (sound long ∧ some (rxSource long) = r.source ∧ rxObject long = r.frame.object ∧ r.lr < rxLength long) ∧
    (sound busy ∧ some (rxSource busy) = r.source ∧ rxObject busy = r.frame.object ∧ rxLength busy ≤ r.lr ∧
      rxStatus busy ≠ .ok) ∧
    (sound goodReply ∧ some (rxSource goodReply) = r.source ∧ rxObject goodReply = r.frame.object ∧
      rxLength goodReply ≤ r.lr ∧ rxStatus goodReply = .ok ∧ r.compare = none) ∧
    (r.source = some 9 ∧ r.lr = 2) := by decide +kernel

/-- A PROBE answered with the identity its entry holds, and with another. -/
theorem witness_ReplyJudged_probe :
    let probe := { attempt .receiving with lr := 6, compare := some 5, frame := pollFrame 9 0 }
    let mine := sampled (buildFrame (headerByte 0 9) 0 (identBytes 5)).bytes
    let other := sampled (buildFrame (headerByte 0 9) 0 (identBytes 6)).bytes
    (rxFramed mine = true ∧ rxCheckPasses mine = true ∧ some (rxSource mine) = probe.source ∧
      rxObject mine = probe.frame.object ∧ rxLength mine ≤ probe.lr ∧ rxStatus mine = .ok ∧
      rxPayload mine = identBytes 5) ∧
    (rxFramed other = true ∧ rxCheckPasses other = true ∧ some (rxSource other) = probe.source ∧
      rxObject other = probe.frame.object ∧ rxLength other ≤ probe.lr ∧ rxStatus other = .ok ∧
      rxPayload other ≠ identBytes 5) := by decide +kernel

theorem witness_ReservationsCover :
    (readRequest.claim 1 {}).exchange ≠ .write ∧ (writeEntry.claim 3 1).exchange = .write ∧
      [1#8, 2#8].length ≤ (writeEntry.claim 3 1).lc ∧
      ({ readRequest with kind := .release }.claim 1 {}).exchange = .release ∧
      1 ≤ ({ readRequest with kind := .release }.claim 1 {}).lc := by decide

/-- A noisy, an empty, a valid and a table-full end of the slots. -/
theorem witness_SlotDecision :
    let common := fun (s : State) (r : Record) => s.line.record = some r ∧ r.phase = .receiving ∧ r.part = .slots ∧
      slotBits ≤ r.phaseTime ∧ s.disc = .inRound sweep { phase := .check }
    let s := fun r => inRound (withRecord opened r) { phase := .check }
    (common (s (slotsOver 5 0)) (slotsOver 5 0) ∧ (slotsOver 5 0).heardCheck ≠ identCheck (slotsOver 5 0).heardIdentity) ∧
    (common (s (slotsOver 0 0)) (slotsOver 0 0) ∧ (slotsOver 0 0).heardCheck = identCheck 0 ∧
      (slotsOver 0 0).heardIdentity = 0) ∧
    (common (s (slotsOver 5 5)) (slotsOver 5 5) ∧ (slotsOver 5 5).heardCheck = identCheck (slotsOver 5 5).heardIdentity ∧
      (slotsOver 5 5).heardIdentity ≠ 0 ∧ ((s (slotsOver 5 5)).roster.admission 5).1 = some 1) ∧
    ((Roster.mk (.fill 60 station) [] 3 6 4).admission 5).1 = none := by decide +kernel

theorem witness_AdmissionTable :
    (withEntry off 9 station).roster.Lawful ∧ (station.identity ≠ 0 ∧ stationAddress 9 = true ∧
      ((withEntry off 9 station).roster.entry 9).state ≠ .free ∧
      ((withEntry off 9 station).roster.entry 9).identity = station.identity) ∧
    (stationAddress 1 = true ∧ ((withEntry off 9 station).roster.entry 1).state = .free ∧
      ∀ b, stationAddress b = true → b < 1 → ((withEntry off 9 station).roster.entry b).state ≠ .free) ∧
    ∀ b, ((withEntry off 9 station).roster.entry b).state ≠ .free → ((withEntry off 9 station).roster.entry b).identity ≠ 5 := by
  refine ⟨station_lawful, by decide, ⟨by decide, by decide, fun b hb h => ?_⟩, fun b hb => ?_⟩
  · have := (stationAddress_iff b).1 hb
    omega
  · have h9 : (withEntry off 9 station).roster.entry b = if b = 9 then station else {} :=
      Roster.single_entry (by decide) station b
    rw [h9] at hb ⊢
    by_cases h : b = 9
    · rw [if_pos h]; decide
    · rw [if_neg h] at hb; exact absurd rfl hb

/-- A round in ASSIGN_WAIT for station 9, with its record. -/
def assigning (r : Record) (prior : StationState) : State :=
  inRound (withEntry (withRecord opened r) 9 { station with state := .joining, prior }) { phase := .assignWait, address := 9 }

def assignRecord (p : Phase) : Record :=
  { roundRecord 16 with part := .assign, frame := assignFrame 0x04120000A3C5 9, phase := p, source := some 9, lr := 0 }

theorem witness_AssignReplySettles :
    let reply := sampled (buildFrame (headerByte 0 9) 0 []).bytes
    let r := { assignRecord .receiving with elapsed := 200, phaseTime := 60 }
    let late := { assignRecord .receiving with elapsed := 206 }
    (r.owner = .discovery ∧ r.phase = .receiving ∧ r.part = .assign ∧ r.replyEnds (assigning r .free).rw reply true = true ∧
      (judgeReply r reply).1 = .ok ∧ (assigning r .free).line.record = some r ∧
      (assigning r .free).disc = .inRound sweep { phase := .assignWait, address := 9 } ∧
      ((assigning r .free).roster.entry 9).state = .joining ∧ ((assigning r .free).roster.entry 9).prior = .free) ∧
    (late.deadline (assigning late .lost).rw ≤ late.elapsed ∧ (assigning late .lost).line.record = some late ∧
      ((assigning late .lost).roster.entry 9).state = .joining ∧
      ((assigning late .lost).roster.entry 9).prior = .lost) := by decide +kernel

theorem witness_AssignTimeoutReverts :
    let r := { assignRecord .waiting with phaseTime := 16 }
    let s := assigning r .active
    s.line.record = some r ∧ r.owner = .discovery ∧ r.phase = .waiting ∧ r.source = some 9 ∧ s.rw ≤ r.phaseTime ∧
      s.disc = .inRound sweep { phase := .assignWait, address := 9 } ∧ (s.roster.entry 9).state = .joining := by decide +kernel

/-- Each part that may follow a gap inside a round, and the round's end. -/
theorem witness_RoundPartsFollow :
    ∀ a ∈ [AfterGap.slots, .restart, .assign 5 9, .release 9, .finish],
      let r := { roundRecord 16 with phase := .closing, phaseTime := 4, after := a }
      let s := inRound (withRecord opened r) {}
      s.line.record = some r ∧ r.owner = .discovery ∧ r.phase = .closing ∧ closingGap ≤ r.phaseTime ∧ r.offGrid = false ∧
        s.disc = .inRound sweep {} ∧ s.line.idleRun = 4 ∧
        (let noise := { s with line := { s.line with idleRun := 0 } }
         noise.line.idleRun ≠ 4 ∧ noise.line.echoCount < 7) := by decide +kernel

theorem witness_RoundEndCourse :
    let r := { roundRecord 16 with phase := .closing, phaseTime := 4, after := .finish, part := .restart }
    let s := inRound (withRecord opened r) { phase := .closing, verdict := some .noisy }
    s.line.record = some r ∧ r.owner = .discovery ∧ r.part ≠ .contend ∧ r.phase = .closing ∧ closingGap ≤ r.phaseTime ∧
      r.offGrid = false ∧ r.after = .finish ∧ s.disc = .inRound sweep { phase := .closing, verdict := some .noisy } ∧
      s.run.state = .running := by decide +kernel

/-- The round goes on: a noisy round below the limit, in RUNNING in the open window, and with the window still SCHED. -/
theorem witness_RoundEndCourse_goesOn :
    ∀ base ∈ [opened, running],
      let r := { roundRecord 16 with phase := .closing, phaseTime := 4, after := .finish, part := .restart }
      let s := inRound (withRecord base r) { phase := .closing, verdict := some .noisy }
      r.owner = .discovery ∧ r.phase = .closing ∧ closingGap ≤ r.phaseTime ∧ r.after = .finish ∧
        s.disc = .inRound sweep { phase := .closing, verdict := some .noisy } ∧ s.run.state = .running ∧
        sweep.faultSeen = false ∧ sweep.consecutiveNoisy < s.roster.discRetries ∧ sweep.cancelRequested = false ∧
        388 + s.rw ≤ s.timer.inForce.openBits ∧ (base = running → s.timer.window ≠ .openWin) := by decide +kernel

/-- A round whose CONTEND frame drew an echo error, and a round that ends in DRAINING. -/
theorem witness_RoundEndCourse_failed :
    (let r := { (roundRecord 16).close (some .lineError) true with phaseTime := 4, after := .finish }
     let s := inRound (withRecord opened r) {}
     s.line.record = some r ∧ r.owner = .discovery ∧ r.part = .contend ∧ r.phase = .closing ∧ closingGap ≤ r.phaseTime ∧
      r.after = .finish ∧ s.disc = .inRound sweep {} ∧ s.run.state ≠ .draining) ∧
    (let r := { roundRecord 16 with phase := .closing, phaseTime := 4, after := .finish, part := .restart }
     let s := { inRound (withRecord opened r) { phase := .closing } with run := { state := .draining } }
     s.line.record = some r ∧ r.phase = .closing ∧ closingGap ≤ r.phaseTime ∧ r.after = .finish ∧
      s.disc = .inRound sweep { phase := .closing } ∧ s.run.state = .draining ∧ s.req.head = .untaken) := by decide +kernel

theorem witness_RoundHearsGreatest :
    ((9 : Ident) ∈ ([5, 9, 6] : List Ident) ∧ ∀ i ∈ ([5, 9, 6] : List Ident), i ≤ 9) ∧
    (∀ n ∈ [2, 3],
      let r := { roundRecord 16 with phase := .receiving, part := .slots, phaseTime := n, heard := 2 }
      (withRecord opened r).mayTick .dominant = true ∧ (withRecord opened r).line.record = some r ∧
        r.heard = heardBits [true, false]) ∧
    ((slotsOver 5 7).heard = ((5 : Ident) ++ (7 : Byte) : BitVec (48 + 8))) :=
  ⟨by simp, by decide +kernel, by decide +kernel⟩

/-- Attempts of a READ entry, mailbox empty, full and KEEP_OLDEST, full and KEEP_NEWEST, and of a WRITE entry. -/
theorem witness_ScheduledOutcomeEndsIssue :
    (∀ o ∈ [LineOutcome.ok, .nak], ∀ e ∈ [readEntry, { readEntry with policy := 1 }, writeEntry], ∀ full ∈ [false, true],
      let r := { polled .closing with phaseTime := 4, outcome := some o }
      let s := ((withRecord running r).setEntry 3 { e with status := .inFlight, attempt := 1 }).setMailbox 3 { full }
      s.line.record = some r ∧ r.owner = .claim (.scheduler 3) ∧ r.phase = .closing ∧ closingGap ≤ r.phaseTime ∧
        r.outcome = some o ∧ r.exchange ≠ some .release ∧ o.retryable = false ∧
        s.run.state ≠ .draining ∧ 3 < 32 ∧ (s.entry 3).status = .inFlight ∧ (s.mailbox 3).full = full ∧
        (s.entry 3).policy = e.policy) ∧
    readEntry.isWrite = false ∧ writeEntry.isWrite = true ∧ readEntry.policy = 0 := by decide +kernel

/-- A TIMEOUT that ends the issue: no attempt is left. -/
theorem witness_ScheduledOutcomeEndsIssue_exhausted :
    let r := { polled .closing with phaseTime := 4, outcome := some .timeout }
    let s := (withRecord (withEntry running 9 station) r).setEntry 3
      { readEntry with status := .inFlight, attempt := 2, retries := 1 }
    s.line.record = some r ∧ r.owner = .claim (.scheduler 3) ∧ r.phase = .closing ∧ closingGap ≤ r.phaseTime ∧
      r.outcome = some .timeout ∧ r.exchange ≠ some .release ∧ s.run.state ≠ .draining ∧ (s.entry 3).status = .inFlight ∧
      ¬ (s.entry 3).attempt < 1 + (s.entry 3).retries.toNat ∧ s.run.state = .running ∧ s.timer.window = .sched := by
  decide +kernel

theorem witness_ScheduledRetry :
    let r := { polled .closing with phaseTime := 4, outcome := some .timeout }
    let s := (withRecord (withEntry running 9 station) r).setEntry 3
      { readEntry with status := .inFlight, attempt := 1, retries := 1 }
    s.line.record = some r ∧ r.owner = .claim (.scheduler 3) ∧ r.phase = .closing ∧ closingGap ≤ r.phaseTime ∧
      r.outcome = some .timeout ∧ r.exchange ≠ some .release ∧ (s.entry 3).status = .inFlight ∧
      (s.entry 3).attempt < 1 + (s.entry 3).retries.toNat ∧ (s.entry 3).disablePending = false ∧
      s.run.state = .running ∧ s.timer.window = .sched ∧
      (s.roster.deliver false .timeout r.dest s.timer.cycle).issuable (s.entry 3).target.toNat = true ∧
      (s.entry 3).reservation s.rw ≤ s.timer.left := by decide +kernel

theorem witness_RequestOutcomeCompletes :
    let common := fun (s : State) (r : Record) (o : LineOutcome) => s.line.record = some r ∧
      r.owner = .claim (.request 7) ∧ r.phase = .closing ∧ closingGap ≤ r.phaseTime ∧ r.outcome = some o ∧
      s.req.queue = [readRequest] ∧ s.run.state ≠ .draining
    let s := fun r => { withRecord (withEntry opened 9 station) r with
      req := { queue := [readRequest], head := .onLine, reservations := 1 } }
    common (s (ended .ok)) (ended .ok) .ok ∧
    (common (s (ended .timeout)) (ended .timeout) .timeout ∧ (ended .timeout).attempt < 1 + readRequest.retries ∧
      (s (ended .timeout)).run.state = .running ∧
      readRequest.targetPasses ((s (ended .timeout)).roster.deliver false .timeout 9 0) = true) ∧
    ¬ { ended .timeout with attempt := 2 }.attempt < 1 + readRequest.retries := by decide +kernel

/-- The claims of each kind, by the target's state. -/
theorem witness_RequestOutcomeCompletes_kinds :
    ∀ k ∈ [ReqKind.read, .write, .probe, .release],
      ({ readRequest with kind := k }.targetPasses (withEntry off 9 station).roster = true ∧
        { readRequest with kind := k }.targetPasses off.roster = false) := by decide +kernel

theorem witness_DrainEndsInOff :
    (let r := { beaconRecord 1 with phase := .closing, phaseTime := 4, outcome := some .ok }
     let s := withRecord running r
     s.line.record = some r ∧ r.owner = .beacon ∧ r.phase = .closing ∧ closingGap ≤ r.phaseTime ∧
      s.run.state ≠ .draining) ∧
    (let s := { withRecord opened (ended .ok) with run := { state := .draining } }
     s.line.record = some (ended .ok) ∧ (ended .ok).owner ≠ .discovery ∧ (ended .ok).phase = .closing ∧
      closingGap ≤ (ended .ok).phaseTime ∧ s.run.state = .draining) := by decide +kernel

/-- In DRAINING: an attempt of a schedule entry, one of a request, and the end of a round. -/
theorem witness_DrainEndsInOff_owners :
    let r := { polled .closing with phaseTime := 4, outcome := some .timeout }
    let round := { roundRecord 16 with phase := .closing, phaseTime := 4, after := .finish }
    let draining := fun r => { withRecord opened r with run := { state := .draining } }
    let s := (draining r).setEntry 3 { readEntry with status := .inFlight, attempt := 1 }
    let q := { draining (ended .ok) with req := { queue := [readRequest], head := .onLine, reservations := 1 } }
    (s.line.record = some r ∧ r.owner = .claim (.scheduler 3) ∧ r.phase = .closing ∧ closingGap ≤ r.phaseTime ∧
      r.outcome = some .timeout ∧ s.run.state = .draining ∧ (s.entry 3).status = .inFlight) ∧
    (q.line.record = some (ended .ok) ∧ (ended .ok).owner = .claim (.request 7) ∧ q.req.queue = [readRequest]) ∧
    ((draining round).line.record = some round ∧ round.owner = .discovery ∧ round.after = .finish ∧
      round.phase = .closing ∧ closingGap ≤ round.phaseTime) := by decide +kernel

/-- The end of an attempt with each outcome, at an entry in each state, of a READ and of a RELEASE. -/
theorem ended_attempt (s : State) (r : Record) (o : LineOutcome) (h : r = { ended o with exchange := r.exchange }) :
    (withRecord s r).attemptEnds r o := by
  refine ⟨rfl, ⟨.request 7, ?_⟩, ?_, ?_, ?_⟩ <;> rw [h] <;> rfl

theorem witness_SuccessfulAttempt :
    (withRecord (withEntry opened 9 station) (ended .nak)).attemptEnds (ended .nak) .nak ∧
    ((withEntry opened 9 station).roster.entry (ended .nak).dest).state = .active ∧
    ¬ ((ended .nak).exchange = some .release ∧ LineOutcome.nak = .ok) := ⟨ended_attempt _ _ _ rfl, by decide⟩

theorem witness_FailedAttempt :
    (withRecord (withEntry opened 9 { station with state := .suspect, failures := 5 })
      (ended .addressMismatch)).attemptEnds (ended .addressMismatch) .addressMismatch ∧
    ((withEntry opened 9 { station with state := .suspect, failures := 5 }).roster.entry 9).state = .suspect :=
  ⟨ended_attempt _ _ _ rfl, by decide⟩

theorem witness_ReleaseFreesEntry :
    let r := fun o => { ended o with exchange := some .release }
    ((withRecord (withEntry opened 9 station) (r .ok)).attemptEnds (r .ok) .ok ∧
      ((withEntry opened 9 station).roster.entry 9).state = .active) ∧
    ((withRecord (withEntry opened 9 { station with state := .lost }) (r .timeout)).attemptEnds (r .timeout) .timeout ∧
      ((withEntry opened 9 { station with state := .lost }).roster.entry 9).state = .lost) ∧
    (withRecord (withEntry opened 9 station) (ended .lineError)).attemptEnds (ended .lineError) .lineError :=
  ⟨⟨ended_attempt _ _ _ rfl, by decide⟩, ⟨ended_attempt _ _ _ rfl, by decide⟩, ended_attempt _ _ _ rfl⟩

theorem witness_ThresholdsLoaded :
    (running.accepts ∧ running.run.state ≠ .off) ∧ (off.accepts ∧ off.run.state = .off ∧ off.host.thresh = 0x0463) ∧
    ∃ s : State, s.accepts ∧ s.run.state = .off ∧ s.host.thresh = 0 :=
  ⟨by decide, by decide, { off with host := { off.host with thresh := 0 } }, by decide⟩

/-- Entries in each state, at the address of the stage and of ARG, and an identity that another entry holds. -/
theorem witness_PinCommands :
    (∀ st ∈ [StationState.reserved, .joining, .active, .suspect, .lost],
      (withEntry off 9 { station with state := st, pinned := true }).roster.Lawful ∧
        ((withEntry off 9 { station with state := st, pinned := true }).roster.entry 9).state = st) ∧
    off.accepts ∧ identOfWords 0x0412 0 0xA3C5 = station.identity ∧ (off.roster.entry 9).state = .free ∧
    (∃ b, b ≠ 10 ∧ ((withEntry off 9 station).roster.entry b).state ≠ .free ∧
      ((withEntry off 9 station).roster.entry b).identity = station.identity) ∧ stationAddress 0 = false := by
  refine ⟨fun st hst => ⟨?_, ?_⟩, by decide, by decide, by decide, ⟨9, by decide⟩, by decide⟩
  · refine Roster.single_lawful (a := 9) (e := { station with state := st, pinned := true }) (by decide) ?_ ?_
      (fun _ => rfl)
    · simp [StationEntry.InRange, station]
    · constructor
      · intro h
        simp only [List.mem_cons, List.not_mem_nil, or_false] at hst
        rcases hst with rfl | rfl | rfl | rfl | rfl <;> cases h
      · intro _; simp [station]
  · exact congrArg StationEntry.state (Roster.single_entry (a := 9) (by decide) { station with state := st, pinned := true } 9)

theorem witness_SnapshotsCopyEntries :
    off.accepts ∧ stationAddress (withArg off 9).host.arg.toNat = true ∧ (withEntry off 9 station).roster.Lawful ∧
      (withArg off 31).host.arg.toNat < 32 ∧ ¬ (withArg off 32).host.arg.toNat < 32 ∧
      stationAddress (withArg off 61).host.arg.toNat = false :=
  ⟨by decide, by decide, station_lawful, by decide, by decide, by decide⟩

def completed : Completion := { tag := 4, kind := .read, outcome := .ok }

theorem witness_PopsReturnOldest :
    (off.accepts ∧ off.roster.changes = [] ∧ off.req.completions = []) ∧
    (∃ s : State, s.accepts ∧ s.roster.changes = [7] ∧ s.req.completions = [completed] ∧ s.run.state ≠ .running) ∧
    (∃ s : State, s.accepts ∧ s.req.completions = [completed] ∧ s.run.state = .running ∧ s.req.head = .untaken ∧
      ([] : List Completion).length + s.req.reservations < 16 ∧ s.req.queue = [readRequest] ∧ readRequest.kind ≠ .discover ∧
      readRequest.targetPasses s.roster = true ∧ s.tooLong readRequest = false) :=
  ⟨by decide, ⟨{ off with roster := { changes := [7] }, req := { completions := [completed] } }, by decide⟩,
    ⟨{ withEntry opened 9 station with req := { completions := [completed], queue := [readRequest] } }, by decide⟩⟩

theorem witness_RosterLaw : ∃ s t : State, s.roster.Lawful ∧ step s = .next t :=
  ⟨{ withEntry off 9 station with pending := [.popChange] }, _, station_lawful, rfl⟩

/-- A station that is ACTIVE, nothing in flight. -/
theorem witness_JoiningAndHealthLaw : ∃ s t : State, s.RunLawful ∧ s.JoiningLawful ∧ s.roster.HealthLawful ∧
    step s = .next t := by
  have he : ∀ a, (withEntry running 9 station).roster.entry a = if a = 9 then station else {} :=
    Roster.single_entry (by decide) station
  refine ⟨{ withEntry running 9 station with pending := [.stop] }, _, ?_, ⟨fun a => ?_, ?_, fun a h => ?_, ?_⟩,
    ⟨by decide, fun a => ?_, fun a h => ?_⟩, rfl⟩
  · constructor <;> first | decide | simp [withEntry, running, off, State.reset, RunState.faulty]
  · change ((withEntry running 9 station).roster.entry a).state = .joining ↔ none = some a
    rw [he]; split <;> simp [station]
  · intro a h; exact absurd h (by decide +revert)
  · change ((withEntry running 9 station).roster.entry a).state = .joining at h
    rw [he] at h; split at h <;> simp [station] at h
  · intro r h; exact absurd h (by simp [withEntry, running])
  · change Roster.countAgrees _ ((withEntry running 9 station).roster.entry a).state
      ((withEntry running 9 station).roster.entry a).failures
    rw [he]; split <;> simp [Roster.countAgrees, station, withEntry, Roster.single]
  · change ((withEntry running 9 station).roster.entry a).state = .joining at h
    rw [he] at h; split at h <;> simp [station] at h

theorem witness_ScheduleEntryConfigured : (withArg off 31).accepts ∧ (withArg off 32).accepts := by decide

theorem witness_ScheduleEntryDisabled :
    (∀ st ∈ [SchedStatus.disabled, .starved, .waiting, .held, .due, .inFlight],
      ((withArg running 3).setEntry 3 { readEntry with status := st }).accepts ∧
        (((withArg running 3).setEntry 3 { readEntry with status := st }).entry 3).status = st) ∧
    ((withArg running 3).setSchedClaim (some (readEntry.claim 3 1))).claimNames 3 = true ∧ running.claimNames 3 = false ∧
    (withRecord running (polled .sending)).entryOnLine 3 = true ∧ running.entryOnLine 3 = false ∧
    (running.run.state = .running ∧ running.timer.window = .sched) ∧
    ¬ (opened.run.state = .running ∧ opened.timer.window = .sched) ∧
    (withArg off 32).accepts := by decide

theorem witness_TakeAndPut :
    let s := ((withArg off 3).setEntry 3 readEntry).setMailbox 3 { data := [0xAB], full := true }
    let w := { (withArg off 3).setEntry 3 writeEntry with host := { off.host with arg := 3, putBuf := wordTable 17 [2] } }
    (s.accepts ∧ s.host.arg.toNat < 32 ∧ (s.entry 3).direction = 0 ∧ (s.mailbox 3).full = true ∧
      (s.mailbox 3).data.length ≤ 32 ∧ (s.mailbox 3).overrun ≤ 255) ∧
    ((off.mailbox 3).full = false ∧ (off.entry 3).direction = 0) ∧
    (w.accepts ∧ (w.entry 3).direction = 1 ∧ (w.host.putBuf.get 0 0).toNat = 2 ∧ 2 ≤ (w.entry 3).length.toNat) ∧
    (let b := { w with host := { w.host with putBuf := wordTable 17 [33] } }
     (b.host.putBuf.get 0 0).toNat = 33) := by decide

/-- An enabled entry in OFF meets the laws of the schedule. -/
theorem witness_SchedLaw : ∃ s t : State, (s.entry 3).enabled = true ∧ s.SchedLawful ∧ step s = .next t := by
  refine ⟨{ off.setEntry 3 { readEntry with status := .waiting } with pending := [.start] }, _, by decide,
    ⟨fun n hn => ?_, ?_, ?_⟩, rfl⟩
  · change ((off.setEntry 3 { readEntry with status := .waiting }).entry n).enabled = true at hn
    change ((off.setEntry 3 { readEntry with status := .waiting }).entry n).Lawful _
    by_cases h : n = 3
    · subst h
      constructor <;> decide
    · rw [State.entry, State.setEntry, Table.get_set_ne _ (Ne.symm h)] at hn
      exact absurd hn (by simp [off, State.reset, SchedEntry.enabled])
  · decide
  · intro c n h; exact absurd h (by simp [State.setEntry, off, State.reset])

/-- A stage that passes every check, behind a record, outside RUNNING, in RUNNING with and without its station, and a
DISCOVER; and a stage that fails the first check. -/
theorem witness_SubmitAppends :
    let stage := fun ws => { off.host with reqStage := wordTable 20 ws }
    let read := stage [7, 0x0100, 0x0209, 0x0021]
    let discover := stage [7, 4, 0, 0]
    (∃ s : State, s.accepts ∧ s.host = read ∧ s.tagsInUse = [4] ∧ s.req.queue ≠ []) ∧
    (∃ s : State, s.accepts ∧ s.host = read ∧ s.run.state ≠ .running ∧ s.req.queue = []) ∧
    (∃ s : State, s.accepts ∧ s.host = read ∧ s.run.state = .running ∧ s.req.queue = [] ∧ s.req.head = .untaken ∧
      readRequest.targetPasses s.roster = true) ∧
    (∃ s : State, s.accepts ∧ s.host = read ∧ s.run.state = .running ∧ s.req.queue = [] ∧ s.req.head = .untaken ∧
      readRequest.targetPasses s.roster = false) ∧
    (∃ s : State, s.accepts ∧ s.host = discover ∧ s.run.state = .running ∧ s.req.queue = [] ∧ s.disc = .idle) ∧
    (stage [7, 5]).stagedRequest.kind = 5 ∧
    (∀ k ∈ [1, 2, 3], ∃ q, { off with host := stage [7, BitVec.ofNat 16 (0x0100 + k), 0x0209, 0x0021, 0xABCD] }.submitChecks
      (stage [7, BitVec.ofNat 16 (0x0100 + k), 0x0209, 0x0021, 0xABCD]).stagedRequest = .ok q) :=
  ⟨⟨{ off with
        host := { off.host with reqStage := wordTable 20 [7, 0x0100, 0x0209, 0x0021] }
        req := { queue := [{ readRequest with tag := 4 }] } }, by decide⟩,
    ⟨{ off with host := { off.host with reqStage := wordTable 20 [7, 0x0100, 0x0209, 0x0021] } }, by decide⟩,
    ⟨{ withEntry opened 9 station with
        host := { off.host with reqStage := wordTable 20 [7, 0x0100, 0x0209, 0x0021] } }, by decide⟩,
    ⟨{ opened with host := { off.host with reqStage := wordTable 20 [7, 0x0100, 0x0209, 0x0021] } }, by decide⟩,
    ⟨{ opened with host := { off.host with reqStage := wordTable 20 [7, 4, 0, 0] } }, by decide⟩, by decide,
    fun k h => by
      simp only [List.mem_cons, List.not_mem_nil, or_false] at h
      rcases h with rfl | rfl | rfl
      · exact ⟨.write, rfl⟩
      · exact ⟨.probe, rfl⟩
      · exact ⟨.release, rfl⟩⟩

theorem witness_CancelWithdraws :
    let s := withArg off 7
    (s.accepts ∧ s.host.arg.toNat = 7 ∧ readRequest.tag = 7 ∧ ∀ q ∈ s.req.queue, q.tag ≠ 7) ∧
    (∃ t : State, t.accepts ∧ t.req.queue = [{ readRequest with tag := 4 }] ++ readRequest :: []) ∧
    (∀ h ∈ [HeadCondition.untaken, .claimed, .onLine, .retryWaiting .timeout 1],
      { s with req := { queue := [readRequest], head := h } }.req.queue = [readRequest]) ∧
    (∃ t : State, t.accepts ∧ t.disc = .sweeping sweep ∧ sweep.tag = (withArg off 3).host.arg.toNat) ∧
    (∃ t : State, t.accepts ∧ t.disc = .inRound sweep {}) ∧ s.disc.tag ≠ some 7 ∧
    255 < (withArg off 256).host.arg.toNat :=
  ⟨by decide, ⟨{ off with req := { queue := [{ readRequest with tag := 4 }, readRequest] } }, by decide⟩, by decide,
    ⟨{ off with disc := .sweeping sweep }, by decide⟩, ⟨inRound off {}, by decide⟩, by decide, by decide⟩

/-- A request claimed in RUNNING meets the laws of the engine. -/
theorem witness_EngineLaw : ∃ s t : State, s.req.head = .claimed ∧ s.EngineLawful ∧ step s = .next t := by
  refine ⟨{ opened with
    req := { queue := [readRequest], head := .claimed, reservations := 1 }
    line := { opened.line with reqClaim := some (readRequest.claim 1 {}) }
    pending := [.grantDecision] }, _, rfl, ?_, rfl⟩
  constructor
  case claimOwner => intro c h; cases h; decide
  all_goals decide

theorem witness_WindowAccess :
    off.accepts ∧ off.host.winSel.toNat < 8 ∧ hostFilled off.host.winSel = false ∧
    (∃ s : State, s.accepts ∧ 8 ≤ s.host.winSel.toNat) ∧
    (∃ s : State, s.accepts ∧ hostFilled s.host.winSel = true ∧ s.host.winIndex.toNat = 19 ∧ s.host.winSel = 1) :=
  ⟨by decide, by decide, by decide, ⟨{ off with host := { off.host with winSel := 8 } }, by decide⟩,
    ⟨{ off with host := { off.host with winSel := 1, winIndex := 19 } }, by decide⟩⟩

/-- A completion to show, each of its counts at the top of its field, and the words CQ_HEAD shows for it (section 12.5). -/
theorem witness_WindowAccess_head :
    let c : Completion := { tag := 255, kind := .read, address := 60, outcome := .ok, attempts := 4, length := 2
                            payload := [0xAB, 0xCD], rounds := 65535 }
    let s := { off with req := { completions := [c] } }
    s.req.completions = [c] ∧ c.tag < 256 ∧ c.address < 256 ∧ c.attempts < 256 ∧ c.rounds < 65536 ∧
      (List.range 5).map (s.regionWord 5) = [0x00FF, 0x043C, 0x0000, 0x0002, 0xABCD] ∧ s.regionWord 5 21 = 0xFFFF := by
  decide +kernel

/-- TIMING shows the set in force, the pending set, the flag and the window (section 12.5). -/
theorem witness_WindowAccess_timing :
    (List.range 12).map (off.regionWord 7) = [48, 16, 125, 125, 16, 48, 16, 125, 125, 16, 0, 0] ∧
      running.regionWord 7 11 = 1 ∧ opened.regionWord 7 11 = 2 := by decide +kernel

theorem witness_EventFlagsAndEnables : off.accepts := by decide

theorem witness_RegisterWrites :
    off.accepts ∧ takesNoWrite 2 = true ∧ takesNoWrite 31 = true ∧ commandCodes.contains (0x26 : Word).toNat = false := by
  decide

end Sys2Proof.Tests
end

section
/-! PROOFS. The queue of waiting commands: every operation of the block leaves it as it is, so a step takes its front and nothing
else (R1, R171).  One lemma for each operation, in the order of the definitions. -/

namespace Sys2Proof.Machine

open Sys2Proof

variable (s : State)

/-! ### The command mechanism -/

theorem State.command_pending (code : Word) {owner : State → State} (h : ∀ u : State, (owner u).pending = u.pending) :
    (s.command code owner).pending = s.pending := by
  unfold State.command
  split
  · rfl
  · split
    · rfl
    · exact h _

theorem State.busWrite_pending {store : State → State} (h : ∀ u : State, (store u).pending = u.pending) :
    (s.busWrite store).pending = s.pending := by
  unfold State.busWrite
  split
  · rfl
  · exact h s

theorem State.onRecord_pending (may : Record → Bool) {event : Record → State} (h : ∀ r, (event r).pending = s.pending) :
    (s.onRecord may event).pending = s.pending := by
  unfold State.onRecord
  split
  · split
    · exact h _
    · rfl
  · rfl

/-! ### The event flags -/

@[simp] theorem State.raiseMbx_pending : s.raiseMbx.pending = s.pending := rfl
@[simp] theorem State.raiseCyc_pending : s.raiseCyc.pending = s.pending := rfl
@[simp] theorem State.raiseStarve_pending : s.raiseStarve.pending = s.pending := rfl
@[simp] theorem State.raiseCheckDone_pending : s.raiseCheckDone.pending = s.pending := rfl
@[simp] theorem State.raiseInitDone_pending : s.raiseInitDone.pending = s.pending := rfl
@[simp] theorem State.raiseDrained_pending : s.raiseDrained.pending = s.pending := rfl

/-! ### The Station Roster -/

@[simp] theorem State.threshLoad_pending : s.threshLoad.pending = s.pending := by
  unfold State.threshLoad
  split
  · rfl
  · split <;> rfl

@[simp] theorem State.pin_pending : s.pin.pending = s.pending := by
  unfold State.pin
  dsimp only
  repeat' split
  all_goals rfl

@[simp] theorem State.unpin_pending : s.unpin.pending = s.pending := by
  unfold State.unpin
  dsimp only
  split
  · rfl
  · split <;> rfl

@[simp] theorem State.clearConflict_pending : s.clearConflict.pending = s.pending := by
  unfold State.clearConflict
  dsimp only
  split
  · rfl
  · split <;> rfl

@[simp] theorem State.popChange_pending : s.popChange.pending = s.pending := by
  unfold State.popChange
  split <;> rfl

@[simp] theorem State.stationSnap_pending : s.stationSnap.pending = s.pending := by
  unfold State.stationSnap
  dsimp only
  split <;> rfl

/-! ### The Discovery Unit and the Request Engine -/

theorem State.EngineFrame.pending_eq {s t : State} (h : s.EngineFrame t) : t.pending = s.pending := by rw [h]

@[simp] theorem State.endSweep_pending (sw : Sweep) (o : LineOutcome) : (s.endSweep sw o).pending = s.pending := rfl

@[simp] theorem State.discCycleStart_pending (applied : Bool) : (s.discCycleStart applied).pending = s.pending :=
  (s.discCycleStart_engineFrame applied).pending_eq

@[simp] theorem State.endSweeping_pending (o : LineOutcome) : (s.endSweeping o).pending = s.pending :=
  (s.endSweeping_engineFrame o).pending_eq

@[simp] theorem State.discGranted_pending : s.discGranted.pending = s.pending := by
  unfold State.discGranted
  split <;> rfl

@[simp] theorem State.discPhase_pending (p : RoundPhase) : (s.discPhase p).pending = s.pending := by
  unfold State.discPhase
  split <;> rfl

@[simp] theorem State.discDecide_pending (ident : Ident) (check : Byte) :
    (s.discDecide ident check).2.pending = s.pending := by
  unfold State.discDecide
  dsimp only
  split
  · repeat' split
    all_goals rfl
  · rfl
  · rfl

@[simp] theorem State.discAssignOutcome_pending (o : LineOutcome) : (s.discAssignOutcome o).pending = s.pending := by
  unfold State.discAssignOutcome
  split
  · split <;> rfl
  · rfl
  · rfl

@[simp] theorem State.discLineError_pending : s.discLineError.pending = s.pending := by
  unfold State.discLineError
  split
  · dsimp only
    split <;> rfl
  · rfl
  · rfl

@[simp] theorem State.discAborted_pending : s.discAborted.pending = s.pending := by
  unfold State.discAborted
  split
  · dsimp only
    split <;> rfl
  · rfl
  · rfl

@[simp] theorem State.discFaultSeen_pending : s.discFaultSeen.pending = s.pending :=
  s.discFaultSeen_engineFrame.pending_eq

@[simp] theorem State.discRoundEnd_pending : s.discRoundEnd.pending = s.pending := s.discRoundEnd_engineFrame.pending_eq

@[simp] theorem State.reqGranted_pending : s.reqGranted.pending = s.pending := rfl

@[simp] theorem State.reqOutcome_pending (o : LineOutcome) (attempt : Nat) (reply : Reply) :
    (s.reqOutcome o attempt reply).pending = s.pending :=
  (s.reqOutcome_engineFrame o attempt reply).pending_eq

@[simp] theorem State.reqWindowOpens_pending : s.reqWindowOpens.pending = s.pending :=
  s.reqWindowOpens_engineFrame.pending_eq

@[simp] theorem State.reqLeave_pending : s.reqLeave.pending = s.pending := s.reqLeave_engineFrame.pending_eq

@[simp] theorem State.submit_pending : s.submit.pending = s.pending := by
  unfold State.submit
  dsimp only
  split
  · rfl
  · split <;> simp

@[simp] theorem State.cancelSweep_pending : s.cancelSweep.pending = s.pending := by
  unfold State.cancelSweep
  split <;> rfl

@[simp] theorem State.cancelHead_pending : s.cancelHead.pending = s.pending := by
  unfold State.cancelHead
  split <;> simp

@[simp] theorem State.cancel_pending : s.cancel.pending = s.pending := by
  unfold State.cancel
  dsimp only
  split
  · rfl
  · split
    · exact s.cancelHead_pending
    · rfl
    · split <;> simp

@[simp] theorem State.popCompletion_pending : s.popCompletion.pending = s.pending := by
  unfold State.popCompletion
  split <;> simp

/-! ### The Poll Scheduler -/

@[simp] theorem State.chooseAtBoundary_pending : s.chooseAtBoundary.pending = s.pending := by
  unfold State.chooseAtBoundary
  split <;> simp

@[simp] theorem State.schedOutcome_pending (n : Nat) (o : LineOutcome) (reply : Reply) :
    (s.schedOutcome n o reply).pending = s.pending := by
  rw [s.schedOutcome_frame]

@[simp] theorem State.schedWithdraw_pending : s.schedWithdraw.pending = s.pending := rfl
@[simp] theorem State.schedLeave_pending : s.schedLeave.pending = s.pending := rfl

@[simp] theorem State.schedSet_pending : s.schedSet.pending = s.pending := by
  unfold State.schedSet
  dsimp only
  split
  · rfl
  · split <;> rfl

@[simp] theorem State.schedEnable_pending : s.schedEnable.pending = s.pending := by
  unfold State.schedEnable
  dsimp only
  split
  · rfl
  · split <;> rfl

@[simp] theorem State.schedDisable_pending : s.schedDisable.pending = s.pending := by
  unfold State.schedDisable
  dsimp only
  split
  · rfl
  · split
    case h_5 => split <;> simp
    case h_6 => split <;> simp
    all_goals rfl

@[simp] theorem State.schedSnap_pending : s.schedSnap.pending = s.pending := by
  unfold State.schedSnap
  dsimp only
  split <;> rfl

@[simp] theorem State.take_pending : s.take.pending = s.pending := by
  unfold State.take
  dsimp only
  repeat' split
  all_goals rfl

@[simp] theorem State.put_pending : s.put.pending = s.pending := by
  unfold State.put
  dsimp only
  repeat' split
  all_goals rfl

/-! ### Changes of run state and the cycle start -/

@[simp] theorem State.enterOff_pending : s.enterOff.pending = s.pending := rfl
@[simp] theorem State.enterDraining_pending : s.enterDraining.pending = s.pending := rfl

theorem State.engineAndUnit_pending (both : Bool) {engine unit : State → State}
    (he : ∀ u : State, (engine u).pending = u.pending) (hu : ∀ u : State, (unit u).pending = u.pending) :
    (s.engineAndUnit both engine unit).pending = s.pending := by
  unfold State.engineAndUnit
  split
  · split <;> simp [he, hu]
  · simp [he, hu]

@[simp] theorem State.ownersLeave_pending (o : LineOutcome) : (s.ownersLeave o).pending = s.pending :=
  s.engineAndUnit_pending _ State.reqLeave_pending fun u => u.endSweeping_pending o

@[simp] theorem State.enterFaulted_pending : s.enterFaulted.pending = s.pending := by simp [State.enterFaulted]

@[simp] theorem State.cycleStart_pending : s.cycleStart.pending = s.pending := by rw [s.cycleStart_frame]

@[simp] theorem State.enterRunning_pending : s.enterRunning.pending = s.pending := by simp [State.enterRunning]

/-! ### The Line Sequencer -/

@[simp] theorem State.echoError_pending : s.echoError.pending = s.pending := by
  unfold State.echoError
  dsimp only
  split <;> simp

@[simp] theorem State.failFrame_pending (r : Record) (offGrid : Bool) : (s.failFrame r offGrid).pending = s.pending := by
  unfold State.failFrame
  dsimp only
  split <;> simp

@[simp] theorem State.driveFrame_pending (r : Record) : (s.driveFrame r).pending = s.pending := by
  unfold State.driveFrame
  split <;> simp

@[simp] theorem State.grant_pending (g : Grant) : (s.grant g).pending = s.pending := by
  cases g with
  | beacon => simp [State.grant]
  | sched c =>
    unfold State.grant
    dsimp only
    split <;> simp
  | request c => simp [State.grant]
  | round => simp [State.grant]

@[simp] theorem State.grantDecided_pending : s.grantDecided.pending = s.pending := by
  unfold State.grantDecided
  split
  · split <;> simp
  · rfl

@[simp] theorem State.decideGrant_pending : s.decideGrant.pending = s.pending := by
  unfold State.decideGrant
  split <;> simp

@[simp] theorem State.boundaryChoice_pending : s.boundaryChoice.pending = s.pending := by
  unfold State.boundaryChoice
  split
  · split <;> simp
  · exact s.chooseAtBoundary_pending

@[simp] theorem State.frameSent_pending (r : Record) : (s.frameSent r).pending = s.pending := by
  unfold State.frameSent
  dsimp only
  split <;> rfl

@[simp] theorem State.classify_pending (r : Record) (o : LineOutcome) (reply : Reply) :
    (s.classify r o reply).pending = s.pending := by
  unfold State.classify
  dsimp only
  split <;> simp

@[simp] theorem State.deliver_pending (r : Record) (o : LineOutcome) : (s.deliver r o).pending = s.pending := by
  unfold State.deliver
  dsimp only
  split <;> simp

@[simp] theorem State.lineFree_pending : s.lineFree.pending = s.pending := by
  unfold State.lineFree
  split <;> simp

@[simp] theorem State.finishRound_pending (r : Record) : (s.finishRound r).pending = s.pending := by
  unfold State.finishRound
  dsimp only
  split <;> simp

@[simp] theorem State.roundClaimSeen_pending : s.roundClaimSeen.pending = s.pending := by
  unfold State.roundClaimSeen
  split
  · split <;> rfl
  · rfl

@[simp] theorem State.gapEnd_pending (r : Record) : (s.gapEnd r).pending = s.pending := by
  unfold State.gapEnd
  split
  · simp
  · simp
  · split <;> simp

@[simp] theorem State.cutLine_pending : s.cutLine.pending = s.pending := by
  unfold State.cutLine
  split
  · rfl
  · split
    · rfl
    · exact s.deliver_pending _ _
    · dsimp only
      split <;> simp

@[simp] theorem State.slotPhase_pending : s.slotPhase.pending = s.pending := by
  unfold State.slotPhase
  split
  · split <;> simp
  · rfl

@[simp] theorem State.tick_pending (mid fin : Level) : (s.tick mid fin).pending = s.pending := by simp [State.tick]

/-! ### Run Control -/

@[simp] theorem State.resetBlocks_pending (asserted : Bool) : (s.resetBlocks asserted).pending = s.pending := rfl

@[simp] theorem State.resetPinAssert_pending (duringRead : Bool) :
    (s.resetPinAssert duringRead).pending = s.pending := by
  unfold State.resetPinAssert
  dsimp only
  split <;> rfl

@[simp] theorem State.resetPinRelease_pending : s.resetPinRelease.pending = s.pending := by
  unfold State.resetPinRelease
  split <;> rfl

@[simp] theorem State.initEnd_pending : s.initEnd.pending = s.pending := by
  unfold State.initEnd
  split <;> rfl

@[simp] theorem State.resetCommand_pending : s.resetCommand.pending = s.pending := rfl

@[simp] theorem State.start_pending : s.start.pending = s.pending := by
  unfold State.start
  split <;> simp

@[simp] theorem State.stop_pending : s.stop.pending = s.pending := by
  unfold State.stop
  split
  case h_1 => split <;> simp
  all_goals simp

@[simp] theorem State.halt_pending : s.halt.pending = s.pending := by
  have engine : ∀ (round : Bool) (u : State), (if round then u else u.cutLine).reqLeave.pending = u.pending := by
    intro round u
    cases round <;> simp
  have unit : ∀ (round : Bool) (u : State), ((if round then u.cutLine else u).endSweeping .aborted).pending = u.pending := by
    intro round u
    cases round <;> simp
  unfold State.halt
  dsimp only
  split
  case h_5 | h_6 => rfl
  all_goals simp [State.engineAndUnit_pending _ _ (engine s.roundOnLine) (unit s.roundOnLine)]

@[simp] theorem State.resume_pending : s.resume.pending = s.pending := by
  unfold State.resume
  split <;> rfl

@[simp] theorem State.lineCheckStuck_pending : s.lineCheckStuck.pending = s.pending := by
  unfold State.lineCheckStuck
  split <;> rfl

@[simp] theorem State.lineCheckClear_pending : s.lineCheckClear.pending = s.pending := by
  unfold State.lineCheckClear
  split <;> simp

/-! ### The Cycle Timer -/

@[simp] theorem State.timingLoad_pending : s.timingLoad.pending = s.pending := by
  unfold State.timingLoad
  dsimp only
  split <;> rfl

@[simp] theorem State.openExpiry_pending : s.openExpiry.pending = s.pending := by
  unfold State.openExpiry
  split <;> simp

@[simp] theorem State.schedExpiry_pending : s.schedExpiry.pending = s.pending := by
  unfold State.schedExpiry
  split <;> simp

@[simp] theorem State.bitTimeEnd_pending (mid fin : Level) : (s.bitTimeEnd mid fin).pending = s.pending := by
  unfold State.bitTimeEnd
  split <;> simp

/-! ### The Host Port -/

@[simp] theorem State.winSelWrite_pending (v : Word) : (s.winSelWrite v).pending = s.pending :=
  s.busWrite_pending fun _ => rfl

@[simp] theorem State.winIndexWrite_pending (v : Word) : (s.winIndexWrite v).pending = s.pending := by
  refine s.busWrite_pending fun u => ?_
  split
  · split <;> rfl
  · rfl

@[simp] theorem State.winDataWrite_pending (v : Word) : (s.winDataWrite v).pending = s.pending :=
  s.busWrite_pending fun _ => rfl

@[simp] theorem State.winDataRead_pending : s.winDataRead.pending = s.pending := by
  unfold State.winDataRead
  split <;> rfl

@[simp] theorem State.eventWrite_pending (v : Word) : (s.eventWrite v).pending = s.pending :=
  s.busWrite_pending fun _ => rfl

@[simp] theorem State.enableWrite_pending (v : Word) : (s.enableWrite v).pending = s.pending :=
  s.busWrite_pending fun _ => rfl

@[simp] theorem State.refuseUnknown_pending : s.refuseUnknown.pending = s.pending := rfl

/-- The owner a code finds in a table keeps the queue when every owner of the table does. -/
theorem lookup_owner_pending {table : List (Nat × (State → State))}
    (h : ∀ p ∈ table, ∀ u : State, (p.2 u).pending = u.pending) (n : Nat) (u : State) :
    (((table.lookup n).getD State.refuseUnknown) u).pending = u.pending := by
  induction table with
  | nil => rfl
  | cons p table ih =>
    obtain ⟨hp, ht⟩ := List.forall_mem_cons.1 h
    rw [List.lookup_cons]
    split
    · exact hp u
    · exact ih ht

theorem commandTable_owner_pending : ∀ p ∈ commandTable, ∀ u : State, (p.2 u).pending = u.pending := by
  simp [commandTable]

@[simp] theorem State.commandWrite_pending (code : Word) : (s.commandWrite code).pending = s.pending :=
  s.command_pending code (lookup_owner_pending commandTable_owner_pending code.toNat)

@[simp] theorem State.registerWrite_pending (addr : BitVec 5) (v : Word) :
    (s.registerWrite addr v).pending = s.pending := by
  unfold State.registerWrite
  split
  case h_7 => exact s.busWrite_pending fun _ => rfl
  all_goals simp

/-! ### The events of the line -/

@[simp] theorem State.echoMismatch_pending (lrx : Level) : (s.echoMismatch lrx).pending = s.pending :=
  s.onRecord_pending _ fun r => s.failFrame_pending r true

@[simp] theorem State.frameSentClean_pending : s.frameSentClean.pending = s.pending :=
  s.onRecord_pending _ fun r => s.frameSent_pending r

@[simp] theorem State.responseWaitExpiry_pending : s.responseWaitExpiry.pending = s.pending :=
  s.onRecord_pending _ fun _ => s.classify_pending _ _ _

@[simp] theorem State.replyLeadingEdge_pending (onGrid : Bool) : (s.replyLeadingEdge onGrid).pending = s.pending :=
  s.onRecord_pending _ fun _ => rfl

@[simp] theorem State.replyReceptionEnd_pending (bytes : List RxByte) (onGrid : Bool) :
    (s.replyReceptionEnd bytes onGrid).pending = s.pending :=
  s.onRecord_pending _ fun _ => s.classify_pending _ _ _

@[simp] theorem State.replyDeadline_pending : s.replyDeadline.pending = s.pending :=
  s.onRecord_pending _ fun _ => s.classify_pending _ _ _

@[simp] theorem State.checkSlotsEnd_pending : s.checkSlotsEnd.pending = s.pending :=
  s.onRecord_pending _ fun r => s.discDecide_pending r.heardIdentity r.heardCheck

@[simp] theorem State.closingGapEnd_pending : s.closingGapEnd.pending = s.pending :=
  s.onRecord_pending _ fun r => by
    rw [State.gapEnd_pending]
    split <;> rfl

/-! ### Commands and steps -/

/-- No command changes the queue of those that wait behind it. -/
theorem exec_pending (c : Instr) {s t : State} (h : exec c s = .next t) : t.pending = s.pending := by
  cases c with
  | resetPinAssert duringRead => cases h; exact s.resetPinAssert_pending duringRead
  | resetPinRelease => cases h; exact s.resetPinRelease_pending
  | initEnd => cases h; exact s.initEnd_pending
  | reset => cases h; exact s.command_pending _ State.resetCommand_pending
  | start => cases h; exact s.command_pending _ State.start_pending
  | stop => cases h; exact s.command_pending _ State.stop_pending
  | halt => cases h; exact s.command_pending _ State.halt_pending
  | resume => cases h; exact s.command_pending _ State.resume_pending
  | lineCheckStuck => cases h; exact s.lineCheckStuck_pending
  | lineCheckClear => cases h; exact s.lineCheckClear_pending
  | timingLoad => cases h; exact s.command_pending _ State.timingLoad_pending
  | threshLoad => cases h; exact s.command_pending _ State.threshLoad_pending
  | pin => cases h; exact s.command_pending _ State.pin_pending
  | unpin => cases h; exact s.command_pending _ State.unpin_pending
  | clearConflict => cases h; exact s.command_pending _ State.clearConflict_pending
  | popChange => cases h; exact s.command_pending _ State.popChange_pending
  | stationSnap => cases h; exact s.command_pending _ State.stationSnap_pending
  | schedSet => cases h; exact s.command_pending _ State.schedSet_pending
  | schedEnable => cases h; exact s.command_pending _ State.schedEnable_pending
  | schedDisable => cases h; exact s.command_pending _ State.schedDisable_pending
  | schedSnap => cases h; exact s.command_pending _ State.schedSnap_pending
  | take => cases h; exact s.command_pending _ State.take_pending
  | put => cases h; exact s.command_pending _ State.put_pending
  | submit => cases h; exact s.command_pending _ State.submit_pending
  | cancel => cases h; exact s.command_pending _ State.cancel_pending
  | popCompletion => cases h; exact s.command_pending _ State.popCompletion_pending
  | unknownCommand code => cases h; exact s.commandWrite_pending code
  | winSelWrite value => cases h; exact s.winSelWrite_pending value
  | winIndexWrite value => cases h; exact s.winIndexWrite_pending value
  | winDataRead => cases h; exact s.winDataRead_pending
  | winDataWrite value => cases h; exact s.winDataWrite_pending value
  | eventWrite value => cases h; exact s.eventWrite_pending value
  | enableWrite value => cases h; exact s.enableWrite_pending value
  | registerWrite addr value => cases h; exact s.registerWrite_pending addr value
  | cycleStart => cases h; exact s.openExpiry_pending
  | schedWindowEnd => cases h; exact s.schedExpiry_pending
  | grantDecision => cases h; exact s.decideGrant_pending
  | echoMismatch lrx => cases h; exact s.echoMismatch_pending lrx
  | frameSentClean => cases h; exact s.frameSentClean_pending
  | responseWaitExpiry => cases h; exact s.responseWaitExpiry_pending
  | replyReceptionEnd bytes onGrid => cases h; exact s.replyReceptionEnd_pending bytes onGrid
  | replyDeadline => cases h; exact s.replyDeadline_pending
  | checkSlotsEnd => cases h; exact s.checkSlotsEnd_pending
  | closingGapEnd => cases h; exact s.closingGapEnd_pending
  | replyLeadingEdge onGrid => cases h; exact s.replyLeadingEdge_pending onGrid
  | bitTimeEnd mid fin => cases h; exact s.bitTimeEnd_pending mid fin

theorem step_setPending_cons (c : Instr) (s : State) (rest : List Instr) :
    step (s.setPending (c :: rest)) = exec c (s.setPending rest) := rfl

theorem step_of_pending_nil {s : State} (h : s.pending = []) : step s = .next s := by
  unfold step
  rw [h]

/-- Settles O1: the front command is run on the rest of the queue by definition, and `exec_pending` goes through every
command. -/
theorem stepRunsFrontCommand : Obligations.StepRunsFrontCommand :=
  ⟨step_setPending_cons, fun c _ _ h => exec_pending c h, fun _ h => step_of_pending_nil h⟩

end Sys2Proof.Machine
end

section
/-! PROOFS. The end of a bit time: what it leaves, field by field, and the Scheduler's choice at the boundary it reaches (R17, R47,
R64, R87, R113, R160). -/

namespace Sys2Proof.Machine

open Sys2Proof

variable (s : State) (mid fin : Level)

/-! ### Whether a bit time may end -/

theorem exec_bitTimeEnd_of_mayTick {s : State} {mid : Level} (h : s.mayTick mid = true) (fin : Level) :
    exec (.bitTimeEnd mid fin) s = .next (s.tick mid fin) :=
  congrArg Host.Outcome.next (if_pos h)

theorem exec_bitTimeEnd_of_not_mayTick {s : State} {mid : Level} (h : s.mayTick mid = false) (fin : Level) :
    exec (.bitTimeEnd mid fin) s = .next s :=
  congrArg Host.Outcome.next (if_neg (by simp [h]))

/-- Each event of the present boundary that is still to be taken holds up the bit time (log 2). -/
theorem State.mayTick_eq_false (h : s.timer.expired = true ∨ s.lineDue = true ∨ s.timer.bitClock = false ∨
    s.run.check.due = true ∨ s.grantDue = true) : s.mayTick mid = false := by
  rcases h with h | h | h | h | h <;> simp [State.mayTick, h]

theorem State.expired_of_mayTick {s : State} {mid : Level} (h : s.mayTick mid = true) : s.timer.expired = false := by
  simp only [State.mayTick, Bool.and_eq_true, Bool.not_eq_true'] at h
  exact h.1.1.1.1.2

/-! ### The unit's phase in the slots (R87) -/

theorem State.slotPhase_frame : s.slotPhase = { s with disc := s.slotPhase.disc } := by
  unfold State.slotPhase State.discPhase
  repeat' split
  all_goals rfl

/-- Once the identity slots are over the unit's phase is CHECK. -/
theorem State.slotPhase_check {s : State} {r : Record} {sw : Sweep} {rd : Round} (hr : s.line.record = some r)
    (h : r.part = .slots ∧ r.phase = .receiving ∧ r.phaseTime = 96) (hd : s.disc = .inRound sw rd) :
    s.slotPhase.disc = .inRound sw { rd with phase := .check } := by
  simp [State.slotPhase, State.discPhase, hr, h, hd]

theorem State.slotPhase_of_not {s : State}
    (h : ∀ r, s.line.record = some r → ¬ (r.part = .slots ∧ r.phase = .receiving ∧ r.phaseTime = 96)) :
    s.slotPhase = s := by
  unfold State.slotPhase
  split
  · next r hr => exact if_neg (h r hr)
  · rfl

/-! ### The choice at the boundary (R113) -/

theorem State.claimExceeds_congr {s u : State} (hrun : s.run.state = u.run.state) (htimer : s.timer = u.timer)
    (hclaim : s.line.schedClaim = u.line.schedClaim) : s.claimExceeds ↔ u.claimExceeds := by
  simp only [State.claimExceeds, State.rw, hrun, htimer, hclaim]

/-- Whether made or left to the decision, the choice shows in the schedule, the claim and the count of free values. -/
theorem State.boundaryChoice_frame : s.boundaryChoice = { s with
    line := { s.line with schedClaim := s.boundaryChoice.line.schedClaim }
    sched := { s.sched with entries := s.boundaryChoice.sched.entries }
    freeIndex := s.boundaryChoice.freeIndex } := by
  rcases s.boundaryChoice_cases with ⟨-, h⟩ | ⟨-, n, ⟨-, h⟩ | h⟩
  · rw [h]
  · rw [h]
  · rw [h]

/-- A choice that is left to the grant decision holds up the next bit time (log 12). -/
theorem State.grantDue_of_claimExceeds {s : State} (hb : s.line.boundary = true) (h : s.claimExceeds) :
    s.grantDue = true := by
  simp [State.grantDue, hb, s.choiceDue_iff.2 h]

/-! ### The state after a bit time, field by field -/

/-- The state with the counts of one bit time taken, before the unit's phase and the Scheduler's choice follow. -/
def State.counted (s : State) (mid fin : Level) : State :=
  { s with
    run := { s.run with check := s.run.check.tick mid }
    timer := s.timer.tick
    line := { s.line with
      idleRun := nextIdleRun s.line.idleRun mid
      record := s.line.record.map fun r => r.tick fin
      boundary := true } }

theorem State.tick_eq : s.tick mid fin = (s.counted mid fin).slotPhase.boundaryChoice := rfl

theorem State.tick_frame : s.tick mid fin = { s.counted mid fin with
    disc := (s.counted mid fin).slotPhase.disc
    line := { (s.counted mid fin).line with schedClaim := (s.tick mid fin).line.schedClaim }
    sched := { s.sched with entries := (s.tick mid fin).sched.entries }
    freeIndex := (s.tick mid fin).freeIndex } := by
  rw [State.tick_eq, State.boundaryChoice_frame, State.slotPhase_frame]
  rfl

@[simp] theorem State.tick_run : (s.tick mid fin).run = { s.run with check := s.run.check.tick mid } := by
  rw [State.tick_frame]; rfl
@[simp] theorem State.tick_timer : (s.tick mid fin).timer = s.timer.tick := by rw [State.tick_frame]; rfl
@[simp] theorem State.tick_roster : (s.tick mid fin).roster = s.roster := by rw [State.tick_frame]; rfl
@[simp] theorem State.tick_disc : (s.tick mid fin).disc = (s.counted mid fin).slotPhase.disc := by rw [State.tick_frame]
@[simp] theorem State.tick_mailboxes : (s.tick mid fin).sched.mailboxes = s.sched.mailboxes := by rw [State.tick_frame]
@[simp] theorem State.tick_req : (s.tick mid fin).req = s.req := by rw [State.tick_frame]; rfl
@[simp] theorem State.tick_host : (s.tick mid fin).host = s.host := by rw [State.tick_frame]; rfl
@[simp] theorem State.tick_dataBus : (s.tick mid fin).dataBus = s.dataBus := by rw [State.tick_frame]; rfl
@[simp] theorem State.tick_line_record : (s.tick mid fin).line.record = s.line.record.map (·.tick fin) := by
  rw [State.tick_frame]; rfl
@[simp] theorem State.tick_line_reqClaim : (s.tick mid fin).line.reqClaim = s.line.reqClaim := by
  rw [State.tick_frame]; rfl
@[simp] theorem State.tick_line_roundClaim : (s.tick mid fin).line.roundClaim = s.line.roundClaim := by
  rw [State.tick_frame]; rfl
@[simp] theorem State.tick_line_beaconPending : (s.tick mid fin).line.beaconPending = s.line.beaconPending := by
  rw [State.tick_frame]; rfl
@[simp] theorem State.tick_line_lastGrant : (s.tick mid fin).line.lastGrant = s.line.lastGrant := by
  rw [State.tick_frame]; rfl
@[simp] theorem State.tick_line_idleRun :
    (s.tick mid fin).line.idleRun = if mid = .recessive then min (s.line.idleRun + 1) 4 else 0 := by
  rw [State.tick_frame]; rfl
@[simp] theorem State.tick_line_echoCount : (s.tick mid fin).line.echoCount = s.line.echoCount := by
  rw [State.tick_frame]; rfl
@[simp] theorem State.tick_line_lineErrors : (s.tick mid fin).line.lineErrors = s.line.lineErrors := by
  rw [State.tick_frame]; rfl
@[simp] theorem State.tick_line_boundary : (s.tick mid fin).line.boundary = true := by rw [State.tick_frame]; rfl

/-- The unit's phase becomes CHECK in the bit time that ends the identity slots. -/
theorem State.tick_disc_check {s : State} {r : Record} {sw : Sweep} {rd : Round} (hr : s.line.record = some r)
    (hpart : r.part = .slots) (hphase : r.phase = .receiving) (htime : r.phaseTime + 1 = 96)
    (hd : s.disc = .inRound sw rd) : (s.tick mid fin).disc = .inRound sw { rd with phase := .check } := by
  have hrec : (s.counted mid fin).line.record = some (r.tick fin) := by simp [State.counted, hr]
  rw [State.tick_disc]
  exact State.slotPhase_check hrec ⟨hpart, hphase, htime⟩ hd

theorem State.tick_disc_same {s : State}
    (h : ∀ r, s.line.record = some r → ¬ (r.part = .slots ∧ r.phase = .receiving ∧ r.phaseTime + 1 = 96)) :
    (s.tick mid fin).disc = s.disc := by
  have hrec : ∀ r', (s.counted mid fin).line.record = some r' →
      ¬ (r'.part = .slots ∧ r'.phase = .receiving ∧ r'.phaseTime = 96) := by
    intro r' hr'
    obtain ⟨r, hr, rfl⟩ := Option.map_eq_some_iff.1 hr'
    exact h r hr
  rw [State.tick_disc, State.slotPhase_of_not hrec]
  rfl

/-- The Scheduler's part of a bit time: nothing where no choice is due at the boundary reached; otherwise the choice is made, or the
grant decision of that boundary is awaited (R113, log 12). -/
theorem State.tick_choice : let boundary := { s with timer := s.timer.tick }
    (¬ boundary.claimExceeds → s.sameSchedule (s.tick mid fin) ∧ (s.tick mid fin).freeIndex = s.freeIndex) ∧
    (boundary.claimExceeds → boundary.Chosen (s.tick mid fin) ∨
      (s.sameSchedule (s.tick mid fin) ∧ (s.tick mid fin).grantDue = true)) := by
  intro boundary
  have hphase := (s.counted mid fin).slotPhase_frame
  generalize hu : (s.counted mid fin).slotPhase = u at hphase
  have htick : s.tick mid fin = u.boundaryChoice := by rw [State.tick_eq, hu]
  have hexc : u.claimExceeds ↔ boundary.claimExceeds := by
    apply State.claimExceeds_congr <;> rw [hphase] <;> rfl
  rw [htick, ← hexc]
  rcases u.boundaryChoice_cases with ⟨hnot, hsame⟩ | ⟨hdue, n, ⟨hchosen, -⟩ | hleft⟩
  · refine ⟨fun _ => ?_, fun h => absurd h hnot⟩
    rw [hsame, hphase]
    exact ⟨⟨rfl, rfl⟩, rfl⟩
  · refine ⟨fun h => absurd hdue h, fun _ => .inl ?_⟩
    exact hchosen.congr (by rw [hphase]; rfl) (by rw [hphase]; rfl) (by rw [hphase]; rfl) rfl rfl
  · refine ⟨fun h => absurd hdue h, fun _ => .inr ?_⟩
    rw [hleft]
    refine ⟨by rw [hphase]; exact ⟨rfl, rfl⟩, State.grantDue_of_claimExceeds (by rw [hphase]; rfl) ?_⟩
    exact (State.claimExceeds_congr rfl rfl rfl).1 hdue

/-- Settles O21: the frame of `State.tick` gives every field, `CycleTimer.tick_left` the bit times left and `State.tick_choice` the
Scheduler's part. -/
theorem bitTimeEnds : Obligations.BitTimeEnds := by
  refine ⟨fun s mid fin hmay htimer => ⟨s.tick mid fin, exec_bitTimeEnd_of_mayTick hmay fin, ?_⟩,
    fun s mid fin h => exec_bitTimeEnd_of_not_mayTick (s.mayTick_eq_false mid h) fin⟩
  have hleft := CycleTimer.tick_left htimer (he := State.expired_of_mayTick hmay)
  have hchoice := s.tick_choice mid fin
  rw [← s.tick_timer mid fin] at hleft hchoice
  refine ⟨hleft, by rw [State.tick_timer]; exact s.timer.tick_frame, s.tick_line_idleRun mid fin,
    fun hr => by simp [hr], fun r hr => by simp [hr, Record.tick], by simp, fun hc => by simp [hc, CheckProgress.tick],
    fun hc => by simp [hc, CheckProgress.tick], fun n hc => by simp [hc, CheckProgress.tick],
    fun r sw rd hr hpart hphase htime hd => State.tick_disc_check mid fin hr hpart hphase htime hd,
    State.tick_disc_same mid fin, hchoice, ?_⟩
  simp

end Sys2Proof.Machine
end

section
/-! PROOFS. What a contention round hears: the samples of the slots as a word, the stations slot by slot, and the greatest identity
(R16, R17, R19). -/

namespace Sys2Proof.Machine

open Sys2Proof

/-! ### The samples as a word (R17) -/

theorem heardBits_append (bits : List Bool) (b : Bool) :
    heardBits (bits ++ [b]) = (heardBits bits <<< 1) ||| (if b then 1 else 0) := by
  simp [heardBits]

/-- Bit `i` of what was heard is the sample `i` slots before the latest. -/
theorem getLsbD_heardBits (bits : List Bool) {i : Nat} (hi : i < 56) :
    (heardBits bits).getLsbD i = bits.reverse.getD i false := by
  induction bits using List.reverseRecOn generalizing i with
  | nil => simp [heardBits]
  | append_singleton bits b ih =>
    rw [heardBits_append, List.reverse_append]
    cases i with
    | zero => cases b <;> simp
    | succ i =>
      have hbit : (if b = true then (1 : BitVec 56) else 0).getLsbD (i + 1) = false := by cases b <;> simp
      rw [BitVec.getLsbD_or, BitVec.getLsbD_shiftLeft, hbit, Nat.add_sub_cancel, ih (by omega)]
      simp [hi]

/-- The sample of a slot's first bit time joins those before it; that of its second does not (R17). -/
theorem Record.tick_heard {r : Record} {bits : List Bool} (fin : Level) (hpart : r.part = .slots)
    (hphase : r.phase = .receiving) (hheard : r.heard = heardBits bits) :
    (r.phaseTime % 2 = 0 → (r.tick fin).heard = heardBits (bits ++ [fin == .dominant])) ∧
    (r.phaseTime % 2 = 1 → (r.tick fin).heard = heardBits bits) := by
  constructor
  · intro ht
    simp [Record.tick, hpart, hphase, ht, hheard, heardBits_append]
  · intro ht
    simp [Record.tick, ht, hheard]

/-- The first 48 samples are the identity, the last 8 the check. -/
theorem Record.heard_split {r : Record} {i : Ident} {k : Byte} (h : r.heard = (i ++ k : BitVec (48 + 8))) :
    r.heardIdentity = i ∧ r.heardCheck = k := by
  unfold Record.heardIdentity Record.heardCheck
  rw [h]
  exact ⟨BitVec.extractLsb'_append_eq_left, BitVec.extractLsb'_append_eq_right⟩

/-! ### What one station sends -/

/-- The 56 bits a station of this identity sends in the slots: the identity, then its check value (R16, R17). -/
def slotWord (i : Ident) : BitVec (48 + 8) := i ++ identCheck i

/-- The bit of slot `k` of a station of this identity. -/
def slotBitOf (i : Ident) (k : Nat) : Bool := ({ ident := i } : Station).slotBit k

theorem slotBitOf_eq (i : Ident) {k : Nat} (h1 : 1 ≤ k) (h56 : k ≤ 56) :
    slotBitOf i k = (slotWord i).getLsbD (56 - k) := by
  unfold slotBitOf Station.slotBit slotWord
  rw [BitVec.getLsbD_append]
  split
  · next h => rw [if_neg (by omega)]; congr 1; omega
  · next h => rw [if_pos (by omega)]

/-- The first `k` of the 56 bits as a number. -/
def slotLead (i : Ident) (k : Nat) : Nat := (slotWord i).toNat / 2 ^ (56 - k)

theorem slotLead_zero (i : Ident) : slotLead i 0 = 0 := Nat.div_eq_of_lt (slotWord i).isLt

theorem slotLead_succ (i : Ident) {k : Nat} (h : k < 56) :
    slotLead i (k + 1) = 2 * slotLead i k + (slotBitOf i (k + 1)).toNat := by
  have hpow : 2 ^ (56 - k) = 2 ^ (56 - (k + 1)) * 2 := by
    rw [← Nat.pow_succ]; congr 1; omega
  unfold slotLead
  rw [slotBitOf_eq i (by omega) (by omega), hpow, ← Nat.div_div_eq_div_mul, BitVec.getLsbD, Nat.testBit_eq_decide_div_mod_eq]
  generalize (slotWord i).toNat / 2 ^ (56 - (k + 1)) = n
  by_cases hn : n % 2 = 1
  · simp [hn]; omega
  · simp [hn]; omega

theorem slotWord_toNat (i : Ident) : (slotWord i).toNat = i.toNat * 2 ^ 8 + (identCheck i).toNat := by
  rw [slotWord, BitVec.toNat_append, ← Nat.shiftLeft_add_eq_or_of_lt (identCheck i).isLt, Nat.shiftLeft_eq]

/-- The identity leads the word, so the order of the words is that of the identities. -/
theorem slotWord_le {i j : Ident} (h : i ≤ j) : (slotWord i).toNat ≤ (slotWord j).toNat := by
  rcases Nat.lt_or_eq_of_le (BitVec.le_def.1 h) with hlt | heq
  · have hi := (identCheck i).isLt
    rw [slotWord_toNat, slotWord_toNat]
    omega
  · rw [BitVec.eq_of_toNat_eq heq]

theorem slotLead_le {i j : Ident} (h : i ≤ j) (k : Nat) : slotLead i k ≤ slotLead j k :=
  Nat.div_le_div_right (slotWord_le h)

theorem slotLead_all {i j : Ident} (h : slotLead i 56 = slotLead j 56) : i = j := by
  have hword : slotWord i = slotWord j := BitVec.eq_of_toNat_eq (by simpa [slotLead] using h)
  rw [← BitVec.extractLsb'_append_eq_left (a := i) (b := identCheck i),
    ← BitVec.extractLsb'_append_eq_left (a := j) (b := identCheck j)]
  exact congrArg _ hword

/-! ### The round, slot by slot (R19) -/

/-- The station of this identity after the first `k` slots of a round whose greatest identity is `top`: it contends as long as it has
sent what a station of that identity sends. -/
def contender (top : Ident) (k : Nat) (i : Ident) : Station :=
  { ident := i, state := if slotLead i k = slotLead top k then .contending else .yielded }

theorem contender_drives (top : Ident) (k j : Nat) (i : Ident) :
    (contender top k i).drives j = (decide (slotLead i k = slotLead top k) && slotBitOf i j) := by
  unfold Station.drives contender
  by_cases h : slotLead i k = slotLead top k
  · simp [h]; rfl
  · simp [h]

/-- The line carries the bit of the greatest identity: its own station still drives it, and a station that drives a 1 where it has
a 0 would have the greater identity. -/
theorem slotLine_contenders {ids : List Ident} {top : Ident} (hmem : top ∈ ids) (hmax : ∀ i ∈ ids, i ≤ top) {k : Nat}
    (hk : k < 56) : slotLine (ids.map (contender top k)) (k + 1) = slotBitOf top (k + 1) := by
  rw [Bool.eq_iff_iff]
  simp only [slotLine, List.any_map, List.any_eq_true, Function.comp_apply, contender_drives, Bool.and_eq_true,
    decide_eq_true_eq]
  constructor
  · rintro ⟨i, hi, hlead, hbit⟩
    have hle := slotLead_le (hmax i hi) (k + 1)
    rw [slotLead_succ i hk, slotLead_succ top hk, hlead, hbit] at hle
    by_contra hno
    rw [Bool.not_eq_true] at hno
    simp [hno] at hle
  · exact fun hbit => ⟨top, hmem, rfl, hbit⟩

/-- A station that contends goes on where its bit is that of the greatest identity, and yields otherwise. -/
theorem contender_afterSlot {top i : Ident} (hle : i ≤ top) {k : Nat} (hk : k < 56) :
    (contender top k i).afterSlot (k + 1) (slotBitOf top (k + 1)) = contender top (k + 1) i := by
  have hlead := slotLead_le hle (k + 1)
  have hbit : (contender top k i).slotBit (k + 1) = slotBitOf i (k + 1) := rfl
  have hstate : (contender top k i).state = if slotLead i k = slotLead top k then .contending else .yielded := rfl
  unfold Station.afterSlot
  rw [hbit, hstate]
  simp only [contender, slotLead_succ _ hk] at hlead ⊢
  by_cases heq : slotLead i k = slotLead top k
  · rw [if_pos heq] at *
    rw [heq] at hlead ⊢
    cases ht : slotBitOf top (k + 1) with
    | false =>
      have hi : slotBitOf i (k + 1) = false := by
        by_contra hno
        simp [ht, hno] at hlead
      simp [hi]
    | true => cases slotBitOf i (k + 1) <;> simp
  · have hne : 2 * slotLead i k + (slotBitOf i (k + 1)).toNat ≠ 2 * slotLead top k + (slotBitOf top (k + 1)).toNat := by
      have h1 := Bool.toNat_lt (slotBitOf i (k + 1))
      have h2 := Bool.toNat_lt (slotBitOf top (k + 1))
      omega
    rw [if_neg heq, if_neg hne]

/-- From slot `k + 1` to the last the controller reads the bits of the greatest identity. -/
theorem runSlots_contenders {ids : List Ident} {top : Ident} (hmem : top ∈ ids) (hmax : ∀ i ∈ ids, i ≤ top) (m k : Nat)
    (h : k + m = 56) : runSlots (List.range' (k + 1) m) (ids.map (contender top k)) =
      ((List.range' (k + 1) m).map (slotBitOf top), ids.map (contender top 56)) := by
  induction m generalizing k with
  | zero =>
    obtain rfl : k = 56 := by omega
    rfl
  | succ m ih =>
    have hk : k < 56 := by omega
    have hafter : (ids.map (contender top k)).map (fun st => st.afterSlot (k + 1) (slotBitOf top (k + 1))) =
        ids.map (contender top (k + 1)) := by
      rw [List.map_map]
      exact List.map_congr_left fun i hi => contender_afterSlot (hmax i hi) hk
    rw [List.range'_succ]
    simp only [runSlots, slotLine_contenders hmem hmax hk, hafter, ih (k + 1) (by omega), List.map_cons]

/-- The bits of one station's slots, gathered, are its 56 bits. -/
theorem heardBits_slotBits (i : Ident) : heardBits (roundSlots.map (slotBitOf i)) = slotWord i := by
  refine BitVec.eq_of_getLsbD_eq fun n hn => ?_
  have hslot : (roundSlots.map (slotBitOf i)).reverse.getD n false = slotBitOf i (56 - n) := by
    rw [List.getD_eq_getElem?_getD, List.getElem?_reverse (by simpa [roundSlots] using hn)]
    have hlast : 1 + (55 - n) = 56 - n := by omega
    simp [roundSlots, List.getElem?_range' (show 55 - n < 56 by omega), hlast]
  rw [getLsbD_heardBits _ hn, hslot, slotBitOf_eq i (by omega) (by omega)]
  congr 1; omega

theorem identCheck_eq (i : Ident) : identCheck i = i.extractLsb' 40 8 + i.extractLsb' 32 8 + i.extractLsb' 24 8
    + i.extractLsb' 16 8 + i.extractLsb' 8 8 + i.extractLsb' 0 8 := by
  simp only [identCheck, identBytes, List.foldl_cons, List.foldl_nil]
  rw [show (0 : Byte) + _ = _ from BitVec.zero_add _]

/-- Settles O37: the stations slot by slot (`runSlots_contenders`), the samples bit time by bit time (`Record.tick_heard`), and the split
of the 56 bits. -/
theorem roundHearsGreatest : Obligations.RoundHearsGreatest := by
  refine ⟨fun ids top hmem hmax => ?_, fun s r bits mid fin hmay hr hpart hphase hheard => ?_,
    fun r i k h => Record.heard_split h⟩
  · intro stations check
    have hstart : stations = ids.map (contender top 0) := by
      simp [stations, contender, slotLead_zero]
    have hrun := runSlots_contenders hmem hmax 56 0 rfl
    rw [← hstart] at hrun
    have hcheck : check = identCheck top := (identCheck_eq top).symm
    have hslots : roundSlots = List.range' (0 + 1) 56 := rfl
    rw [hslots, hrun, hcheck]
    refine ⟨heardBits_slotBits top, fun st hst => ?_⟩
    obtain ⟨i, -, rfl⟩ := List.mem_map.1 hst
    by_cases heq : i = top
    · simp [contender, heq]
    · have hlead : slotLead i 56 ≠ slotLead top 56 := fun h => heq (slotLead_all h)
      simp [contender, heq, hlead]
  · exact ⟨s.tick mid fin, r.tick fin, exec_bitTimeEnd_of_mayTick hmay fin, by simp [hr],
      Record.tick_heard fin hpart hphase hheard⟩

end Sys2Proof.Machine
end

section
/-! PROOFS. Frames and replies: how long a frame lasts, what a reservation covers, and the judging of a reply, as received and as
sent (R4, R6, R10, R11, R15, R18, R73, R74). -/

namespace Sys2Proof.Machine

open Sys2Proof

/-! ### How long frames last (R6, R15) -/

@[simp] theorem buildFrame_payload (header object : Byte) (payload : List Byte) :
    (buildFrame header object payload).payload = payload := rfl

theorem buildFrame_check (header object : Byte) (payload : List Byte) :
    (buildFrame header object payload).check = crc (coveredBytes header object payload) := by
  simp only [buildFrame]

@[simp] theorem buildFrame_bits (header object : Byte) (payload : List Byte) :
    (buildFrame header object payload).bits = 10 * (6 + payload.length) := rfl

/-- The frame of a claim carries no more payload than the claim reserves for. -/
theorem Claim.frame_payload_le (c : Claim) (payload : List Byte) (hw : c.exchange = .write → payload.length ≤ c.lc)
    (hr : c.exchange = .release → 1 ≤ c.lc) : (c.frame payload).payload.length ≤ c.lc := by
  unfold Claim.frame
  cases h : c.exchange with
  | poll => exact Nat.zero_le _
  | write => exact hw h
  | release => exact hr h

/-- Settles O30: each part's bits, added up. -/
theorem reservationsCover : Obligations.ReservationsCover := by
  refine ⟨fun c payload rw hw hr => ?_, fun _ => rfl, fun i a rw => ?_⟩
  · have hlen := c.frame_payload_le payload hw hr
    simp only [Record.deadline, Frame.bits, Claim.record, Claim.reservation, exchangeReservation, closingGap]
    omega
  · simp only [contendFrame, assignFrame, releaseFrame, buildFrame_bits, roundRecord, roundReservation, closingGap, slotBits,
      identBytes, List.length_append, List.length_cons, List.length_nil]
    omega

/-! ### The checks of a reply as received (R73, R74) -/

variable {r : Record} {bytes : List RxByte}

theorem judgeReply_unsound (h : ¬ (rxFramed bytes = true ∧ rxCheckPasses bytes = true)) :
    judgeReply r bytes = (.checkError, {}) := by
  have hfails : (rxFramed bytes && rxCheckPasses bytes) = false := by
    rw [← Bool.not_eq_true, Bool.and_eq_true]
    exact h
  simp [judgeReply, hfails]

theorem judgeReply_source (hsound : rxFramed bytes = true ∧ rxCheckPasses bytes = true)
    (h : some (rxSource bytes) ≠ r.source) : judgeReply r bytes = (.addressMismatch, {}) := by
  simp [judgeReply, hsound, h]

theorem judgeReply_object (hsound : rxFramed bytes = true ∧ rxCheckPasses bytes = true)
    (hsource : some (rxSource bytes) = r.source) (h : rxObject bytes ≠ r.frame.object) :
    judgeReply r bytes = (.checkError, {}) := by
  simp [judgeReply, hsound, hsource, h]

theorem judgeReply_length (hsound : rxFramed bytes = true ∧ rxCheckPasses bytes = true)
    (hsource : some (rxSource bytes) = r.source) (hobject : rxObject bytes = r.frame.object)
    (h : r.lr < rxLength bytes) : judgeReply r bytes = (.lengthError, {}) := by
  simp [judgeReply, hsound, hsource, hobject, h]

/-- A reply that passes the checks is accepted. -/
theorem judgeReply_accepted (hsound : rxFramed bytes = true ∧ rxCheckPasses bytes = true)
    (hsource : some (rxSource bytes) = r.source) (hobject : rxObject bytes = r.frame.object)
    (h : rxLength bytes ≤ r.lr) : judgeReply r bytes = acceptReply r bytes := by
  simp [judgeReply, hsound, hsource, hobject, Nat.not_lt.2 h]

theorem acceptReply_nak (h : rxStatus bytes ≠ .ok) :
    acceptReply r bytes = (.nak, { status := rxStatus bytes, length := rxLength bytes }) := by
  unfold acceptReply
  dsimp only
  split
  · next hok => exact absurd hok h
  · rfl

theorem acceptReply_ok (h : rxStatus bytes = .ok) (hc : r.compare = none) :
    acceptReply r bytes = (.ok, { status := .ok, length := rxLength bytes, payload := rxPayload bytes }) := by
  simp [acceptReply, h, hc]

/-- For a PROBE the payload is compared with the identity of the entry (R74). -/
theorem acceptReply_compare {i : Ident} (h : rxStatus bytes = .ok) (hc : r.compare = some i) :
    (acceptReply r bytes).1 = if rxPayload bytes = identBytes i then .ok else .identityMismatch := by
  simp [acceptReply, h, hc]

/-! ### A reply as sent (R4, R10, R11) -/

/-- The ten samples of a byte as it is sent: start bit dominant, the data, stop bit recessive (R4). -/
def sampledByte (b : Byte) : RxByte := (1#1 ++ b ++ 0#1 : BitVec (1 + 8 + 1))

theorem sampledByte_getLsbD (b : Byte) (i : Nat) :
    (sampledByte b).getLsbD i = if i < 1 then false else if i < 9 then b.getLsbD (i - 1) else decide (i = 9) := by
  change BitVec.getLsbD (w := 1 + 8 + 1) (1#1 ++ b ++ 0#1) i = _
  rw [BitVec.getLsbD_append, BitVec.getLsbD_append]
  split
  · simp
  · split
    · rw [if_pos (by omega)]
    · rw [if_neg (by omega)]
      simp
      omega

@[simp] theorem sampledByte_value (b : Byte) : RxByte.value (sampledByte b) = b := by
  refine BitVec.eq_of_getLsbD_eq fun i hi => ?_
  rw [RxByte.value, BitVec.getLsbD_extractLsb', sampledByte_getLsbD, if_neg (by omega), if_pos (by omega)]
  simp [hi]

@[simp] theorem sampledByte_framed (b : Byte) : RxByte.framed (sampledByte b) = true := by
  rw [RxByte.framed, sampledByte_getLsbD, sampledByte_getLsbD]
  rfl

theorem map_value_sampled (bytes : List Byte) : (bytes.map sampledByte).map RxByte.value = bytes := by
  rw [List.map_map]
  exact List.map_id'' sampledByte_value bytes

section
variable (header object : Byte) (payload : List Byte)

/-- The samples of a frame with these fields. -/
def sampledFrame : List RxByte := (buildFrame header object payload).bytes.map sampledByte

/-- The bytes a receiver reads from the samples of a frame, in the order of R6. -/
theorem sampledFrame_values : (sampledFrame header object payload).map RxByte.value =
    syncByte :: (coveredBytes header object payload ++
      [(buildFrame header object payload).check.hiByte, (buildFrame header object payload).check.loByte]) :=
  map_value_sampled _

theorem coveredBytes_length : (coveredBytes header object payload).length = 3 + payload.length := by
  simp only [coveredBytes, List.length_cons]
  omega

theorem rxHeader_sampledFrame : rxHeader (sampledFrame header object payload) = header := by
  rw [rxHeader, sampledFrame_values]; rfl

theorem rxObject_sampledFrame : rxObject (sampledFrame header object payload) = object := by
  rw [rxObject, sampledFrame_values]; rfl

theorem rxFramed_sampledFrame : rxFramed (sampledFrame header object payload) = true := by
  rw [rxFramed, sampledFrame_values]
  simp [sampledFrame, syncByte]

variable {payload}

theorem rxLength_sampledFrame (h : payload.length ≤ 32) :
    rxLength (sampledFrame header object payload) = payload.length := by
  rw [rxLength, sampledFrame_values]
  exact Nat.mod_eq_of_lt (by omega)

theorem rxPayload_sampledFrame (h : payload.length ≤ 32) :
    rxPayload (sampledFrame header object payload) = payload := by
  rw [rxPayload, rxLength_sampledFrame header object h, sampledFrame_values]
  simp [coveredBytes]

theorem rxComplete_sampledFrame (h : payload.length ≤ 32) :
    rxComplete (sampledFrame header object payload) = true := by
  rw [rxComplete, rxLength_sampledFrame header object h, beq_iff_eq, ← List.length_map RxByte.value, sampledFrame_values]
  simp only [List.length_cons, List.length_append, List.length_nil, coveredBytes_length]
  omega

/-- A word is its two bytes, the most significant first. -/
theorem hiByte_append_loByte (w : Word) : (w.hiByte ++ w.loByte : BitVec (8 + 8)) = w := by
  refine BitVec.eq_of_getLsbD_eq fun i hi => ?_
  rw [BitVec.getLsbD_append, Word.hiByte, Word.loByte, BitVec.getLsbD_extractLsb', BitVec.getLsbD_extractLsb']
  split
  · next h => simp [h]
  · next h =>
    have hsum : 8 + (i - 8) = i := by omega
    have hlt : i - 8 < 8 := by omega
    simp [hsum, hlt]

/-- The receiver's check over HEADER to PAYLOAD is the one that was sent (R10). -/
theorem rxCheckPasses_sampledFrame (h : payload.length ≤ 32) :
    rxCheckPasses (sampledFrame header object payload) = true := by
  have hlen := coveredBytes_length header object payload
  have hcovered : ∀ tail : List Byte, (coveredBytes header object payload ++ tail).take (3 + payload.length) =
      coveredBytes header object payload := fun tail => List.take_left' hlen
  have htail : ∀ (a b : Byte) (k : Nat), (syncByte :: (coveredBytes header object payload ++ [a, b])).getD
      (k + payload.length + 4) 0 = [a, b].getD k 0 := by
    intro a b k
    rw [List.getD_cons_succ, List.getD_append_right _ _ _ _ (by omega), hlen]
    congr 1; omega
  unfold rxCheckPasses
  rw [rxLength_sampledFrame header object h, sampledFrame_values]
  dsimp only
  rw [List.drop_one, List.tail_cons, hcovered, show 4 + payload.length = 0 + payload.length + 4 by omega,
    show 5 + payload.length = 1 + payload.length + 4 by omega, htail, htail, beq_iff_eq, List.getD_cons_zero,
    List.getD_cons_succ, List.getD_cons_zero, hiByte_append_loByte, buildFrame_check]

end

/-- The status and the source that a HEADER was built from (R11). -/
theorem rxStatus_of_header {status : ReplyStatus} {source : Nat} (h : rxHeader bytes = headerByte status.code source) :
    rxStatus bytes = status := by
  have hfield : ((headerByte status.code source).extractLsb' 6 2).toNat = status.code := by
    unfold headerByte
    rw [BitVec.extractLsb'_append_eq_left]
    cases status <;> rfl
  unfold rxStatus
  rw [h, hfield]
  cases status <;> rfl

theorem rxSource_of_header {kind source : Nat} (hs : source < 64) (h : rxHeader bytes = headerByte kind source) :
    rxSource bytes = source := by
  unfold rxSource headerByte at *
  rw [h, BitVec.extractLsb'_append_eq_right]
  exact Nat.mod_eq_of_lt hs

/-- Settles O29: each check by its own lemma, and a reply as sent passes them field by field. -/
theorem replyJudged : Obligations.ReplyJudged := by
  refine ⟨by decide +kernel, fun r bytes => ⟨fun h => ?_, fun hs h => ?_, fun hs h1 h => ?_, fun hs h1 h2 h => ?_,
    fun hs h1 h2 h3 => ?_⟩, fun r status source payload hsource hfrom hlr hlen hcompare => ?_⟩
  · rw [judgeReply_unsound h]
  · rw [judgeReply_source hs h]
  · rw [judgeReply_object hs h1 h]
  · rw [judgeReply_length hs h1 h2 h]
  · rw [judgeReply_accepted hs h1 h2 h3]
    refine ⟨fun h => ?_, fun h hc => ?_, fun i h hc => ⟨fun hp => ?_, fun hp => ?_⟩⟩
    · rw [acceptReply_nak h]
    · rw [acceptReply_ok h hc]
    · rw [acceptReply_compare h hc, if_pos hp]
    · rw [acceptReply_compare h hc, if_neg hp]
  · intro sent sampled
    have heq : sampled = sampledFrame (headerByte status.code source) r.frame.object payload := rfl
    have hheader := rxHeader_sampledFrame (headerByte status.code source) r.frame.object payload
    have hobject := rxObject_sampledFrame (headerByte status.code source) r.frame.object payload
    have hframed := rxFramed_sampledFrame (headerByte status.code source) r.frame.object payload
    have hcheck := rxCheckPasses_sampledFrame (headerByte status.code source) r.frame.object hlen
    have hlength := rxLength_sampledFrame (headerByte status.code source) r.frame.object hlen
    have hpayload := rxPayload_sampledFrame (headerByte status.code source) r.frame.object hlen
    rw [← heq] at hheader hobject hframed hcheck hlength hpayload
    have hstatus := rxStatus_of_header hheader
    refine ⟨rxComplete_sampledFrame _ _ hlen, ?_⟩
    have hfromIt : some (rxSource sampled) = r.source := by rw [rxSource_of_header hsource hheader, hfrom]
    rw [judgeReply_accepted ⟨hframed, hcheck⟩ hfromIt hobject (by rwa [hlength])]
    split
    · next hok => rw [acceptReply_ok (hstatus.trans hok) hcompare, hlength, hpayload, hok]
    · next hno => rw [acceptReply_nak (by rwa [hstatus]), hstatus, hlength]

end Sys2Proof.Machine
end

section
/-! PROOFS. The events of a transaction: the end of a frame, the response wait, the classification of an attempt, the end of the
slots, the parts of a round (R12, R13, R18, R63, R71, R73, R77, R78, R88). -/

namespace Sys2Proof.Machine

open Sys2Proof

variable {s : State} {r : Record} {sw : Sweep} {rd : Round}

/-! ### When each phase is due (R12, R13, R63) -/

theorem Record.due_sending (rw : Nat) (h : r.phase = .sending) : r.due rw = decide (r.frame.bits ≤ r.phaseTime) := by
  simp [Record.due, h]

theorem Record.due_waiting (rw : Nat) (h : r.phase = .waiting) : r.due rw = decide (rw ≤ r.phaseTime) := by
  simp [Record.due, h]

theorem Record.due_slots (rw : Nat) (h : r.phase = .receiving) (hpart : r.part = .slots) :
    r.due rw = decide (slotBits ≤ r.phaseTime) := by
  simp [Record.due, h, hpart]

theorem Record.due_receiving (rw : Nat) (h : r.phase = .receiving) (hpart : r.part ≠ .slots) :
    r.due rw = decide (r.frame.bits + rw + 10 * (6 + r.lr) ≤ r.elapsed) := by
  simp only [Record.due, h, if_neg hpart]
  rfl

theorem Record.due_closing (rw : Nat) (h : r.phase = .closing) : r.due rw = decide (closingGap ≤ r.phaseTime) := by
  simp [Record.due, h]

/-! ### An event of the line: it occurs, or it cannot (log 1) -/

/-- An event of the record in flight that cannot occur changes nothing. -/
theorem State.onRecord_may_not {may : Record → Bool} {event : Record → State} (hr : s.line.record = some r)
    (h : may r = false) : s.onRecord may event = s :=
  State.onRecord_none fun r' hr' => by
    obtain rfl : r = r' := Option.some.inj (hr.symm.trans hr')
    exact h

/-! ### The end of a frame and the response wait (R12, R63, R71) -/

/-- The frames that expect a reply: the ASSIGN of a round, and the one frame of an exchange (R12). -/
theorem Record.expectsReply_iff : r.expectsReply = true ↔ r.part = .assign ∨
    (r.part = .single ∧ (r.exchange = some .poll ∨ r.exchange = some .write ∨ r.exchange = some .release)) := by
  unfold Record.expectsReply
  cases r.part with
  | single =>
    cases r.exchange with
    | none => simp
    | some x => cases x <;> simp
  | assign => simp
  | contend | slots | restart | release => simp

theorem State.frameSent_reply (h : r.expectsReply = true) : s.frameSent r = { s with line := { s.line with
    echoCount := 0, record := some { r with phase := .waiting, phaseTime := 0 } } } := by
  simp [State.frameSent, h, State.setEchoCount, State.setRecord]

theorem State.frameSent_gap (h : r.expectsReply = false) : s.frameSent r = { s with line := { s.line with
    echoCount := 0
    record := some { r with
      phase := .closing, phaseTime := 0, offGrid := false
      outcome := if r.owner = .discovery then none else some .ok } } } := by
  simp [State.frameSent, h, State.setEchoCount, State.setRecord, Record.close]

/-- Settles O27: a frame sent clean by whether it expects a reply, a leading edge by where it falls in the wait. -/
theorem sendingAndWaitingEnd : Obligations.SendingAndWaitingEnd := by
  refine ⟨fun s r hr hphase hbits => ?_, fun s r hr hphase hbits => ?_, fun s r onGrid hr hphase htime => ?_,
    fun s r onGrid hr hphase htime => ?_⟩
  · have hoccurs : s.frameSentClean = s.frameSent r :=
      State.onRecord_some hr (by simp [hphase, Record.due_sending, hbits])
    refine congrArg Host.Outcome.next (hoccurs.trans ?_)
    by_cases hreply : r.expectsReply = true
    · rw [State.frameSent_reply hreply, if_pos (Record.expectsReply_iff.1 hreply)]
    · rw [State.frameSent_gap (by simpa using hreply), if_neg (fun h => hreply (Record.expectsReply_iff.2 h))]
  · exact congrArg Host.Outcome.next
      (State.onRecord_may_not hr (by simp [hphase, Record.due_sending, Nat.not_le.2 hbits]))
  · have hedge : r.edgeInWait s.rw onGrid = true := by simpa [Record.edgeInWait] using htime
    exact congrArg Host.Outcome.next (State.onRecord_some hr (by simp [hphase, hedge]))
  · have hedge : r.edgeInWait s.rw onGrid = false := by
      rcases htime with h | ⟨h, hoff⟩
      · simp [Record.edgeInWait, Nat.le_of_lt h, Nat.ne_of_gt h]
      · simp [Record.edgeInWait, h, hoff]
    exact congrArg Host.Outcome.next (State.onRecord_may_not hr (by simp [hphase, hedge]))

/-! ### Classification (R13, R63, R73) -/

/-- Outside a round the classification closes the record and changes nothing else. -/
theorem State.classify_claim {o : ClaimOwner} (ho : r.owner = .claim o) (out : LineOutcome) (reply : Reply) :
    s.classify r out reply = { s with line := { s.line with record := some { r with
      phase := .closing, outcome := some out, phaseTime := 0, reply, after := .finish } } } := by
  simp [State.classify, ho, State.setRecord, Record.close]

/-- A reply ends as its LENGTH declares, on its own bit clock, at or before the deadline (R5, R13). -/
theorem Record.replyEnds_iff (rw : Nat) (bytes : List RxByte) (onGrid : Bool) : r.replyEnds rw bytes onGrid = true ↔
    bytes.length = 6 + rxLength bytes ∧
    (20 * bytes.length ≤ 2 * r.phaseTime + (bytes.length - 1) + (if onGrid then 0 else 1) ∧
      2 * r.phaseTime ≤ 20 * bytes.length + (bytes.length - 1) + (if r.offGrid then 1 else 0)) ∧
    (r.elapsed < r.frame.bits + rw + 10 * (6 + r.lr) ∨
      (r.elapsed = r.frame.bits + rw + 10 * (6 + r.lr) ∧ onGrid = true)) := by
  have hend : (!onGrid).toNat = if onGrid then 0 else 1 := by cases onGrid <;> rfl
  have hedge : r.offGrid.toNat = if r.offGrid then 1 else 0 := by cases r.offGrid <;> rfl
  simp only [Record.replyEnds, rxComplete, gridAllows, hend, hedge, Bool.and_eq_true, Bool.or_eq_true, beq_iff_eq,
    decide_eq_true_eq, and_assoc]
  rfl

/-- Settles O28: each event occurs where its phase is due, and the classification closes the record. -/
theorem attemptClassified : Obligations.AttemptClassified := by
  intro s r o hr ho deadline closed
  refine ⟨fun hphase htime => ?_, fun hphase htime => ?_, fun hphase hpart htime => ?_, fun hphase hpart htime => ?_,
    fun bytes onGrid hphase hpart => ?_⟩
  · exact congrArg Host.Outcome.next ((State.onRecord_some hr (by simp [hphase, Record.due_waiting, htime])).trans
      (State.classify_claim (r := { r with offGrid := false }) ho _ _))
  · exact congrArg Host.Outcome.next
      (State.onRecord_may_not hr (by simp [hphase, Record.due_waiting, Nat.not_le.2 htime]))
  · have hdue : r.due s.rw = true := by rw [Record.due_receiving _ hphase hpart]; exact decide_eq_true htime
    exact congrArg Host.Outcome.next ((State.onRecord_some hr (by simp [hphase, hpart, hdue])).trans
      (State.classify_claim (r := { r with offGrid := false }) ho _ _))
  · have hdue : r.due s.rw = false := by
      rw [Record.due_receiving _ hphase hpart]; exact decide_eq_false (Nat.not_le.2 htime)
    exact congrArg Host.Outcome.next (State.onRecord_may_not hr (by simp [hdue]))
  · intro n inTime onItsGrid
    refine ⟨fun hlen hgrid hin => ?_, fun hnot => ?_⟩
    · have hends : r.replyEnds s.rw bytes onGrid = true := (Record.replyEnds_iff _ _ _).2 ⟨hlen, hgrid, hin⟩
      exact congrArg Host.Outcome.next ((State.onRecord_some hr (by simp [hphase, hpart, hends])).trans
        (State.classify_claim (r := { r with offGrid := !onGrid }) ho _ _))
    · have hends : r.replyEnds s.rw bytes onGrid = false :=
        Bool.eq_false_iff.2 fun h => hnot ((Record.replyEnds_iff _ _ _).1 h)
      exact congrArg Host.Outcome.next (State.onRecord_may_not hr (by simp [hends]))

/-! ### The decision on the slots (R88 to R90) -/

theorem State.discDecide_noisy {i : Ident} {check : Byte} (hd : s.disc = .inRound sw rd) (h : check ≠ identCheck i) :
    s.discDecide i check =
      (.restart, s.setDisc (.inRound sw.noisier { rd with phase := .closing, verdict := some .noisy })) := by
  simp [State.discDecide, hd, h]

theorem State.discDecide_empty {check : Byte} (hd : s.disc = .inRound sw rd) (h : check = identCheck 0) :
    s.discDecide 0 check =
      (.finish, s.setDisc (.inRound sw { rd with phase := .decide, verdict := some .empty })) := by
  simp [State.discDecide, hd, h]

theorem State.discDecide_valid {i : Ident} {check : Byte} {a : Nat} (hd : s.disc = .inRound sw rd)
    (h : check = identCheck i) (hi : i ≠ 0) (ha : (s.roster.admission i).1 = some a) :
    s.discDecide i check = (.assign i a, (s.setRoster (s.roster.admission i).2).setDisc
      (.inRound { sw with consecutiveNoisy := 0 }
        { rd with phase := .assignWait, address := a, verdict := some .valid })) := by
  unfold State.discDecide
  simp only [hd, if_neg (not_not.2 h), if_neg hi, ha]

theorem State.discDecide_tableFull {i : Ident} {check : Byte} (hd : s.disc = .inRound sw rd) (h : check = identCheck i)
    (hi : i ≠ 0) (ha : (s.roster.admission i).1 = none) :
    s.discDecide i check = (.restart, s.setDisc (.inRound { sw with consecutiveNoisy := 0 }
      { rd with phase := .closing, verdict := some .valid, tableFull := true })) := by
  unfold State.discDecide
  simp only [hd, if_neg (not_not.2 h), if_neg hi, ha]

/-- The end of the slots: the unit decides, and the gap before the ending it answers begins (R77). -/
theorem exec_checkSlotsEnd {after : AfterGap} {t : State} (hr : s.line.record = some r) (hphase : r.phase = .receiving)
    (hpart : r.part = .slots) (htime : slotBits ≤ r.phaseTime)
    (h : s.discDecide r.heardIdentity r.heardCheck = (after, t)) :
    exec .checkSlotsEnd s = .next (t.setRecord (some { r.close none false with after })) := by
  have hdue : r.due s.rw = true := by rw [Record.due_slots _ hphase hpart]; exact decide_eq_true htime
  have hoccurs := State.onRecord_some (event := fun r =>
    (s.discDecide r.heardIdentity r.heardCheck).2.setRecord
      (some { r.close none false with after := (s.discDecide r.heardIdentity r.heardCheck).1 }))
    (may := fun r => r.phase == .receiving && r.part == .slots && r.due s.rw) hr (by simp [hphase, hpart, hdue])
  rw [h] at hoccurs
  exact congrArg Host.Outcome.next hoccurs

/-- Settles O31: the four answers of the unit's decision. -/
theorem slotDecision : Obligations.SlotDecision := by
  intro s r sw rd hr hphase hpart htime hd i check gap
  have hcheck : check = identCheck i := (identCheck_eq i).symm
  rw [hcheck]
  refine ⟨fun h => ?_, fun h hi => ?_, fun a h hi ha => ?_, fun h hi ha => ?_⟩
  · exact exec_checkSlotsEnd hr hphase hpart htime (State.discDecide_noisy hd h)
  · have hempty := State.discDecide_empty (check := r.heardCheck) hd (by rw [h, hi])
    exact exec_checkSlotsEnd hr hphase hpart htime (by rw [← hempty, ← hi])
  · exact exec_checkSlotsEnd hr hphase hpart htime (State.discDecide_valid hd h hi ha)
  · exact exec_checkSlotsEnd hr hphase hpart htime (State.discDecide_tableFull hd h hi ha)

/-! ### The parts of a round (R18, R77, R78, R101) -/

/-- A frame of a round after the CONTEND is driven with the line idle; otherwise, below the eighth echo error in a row, the round is
LINE_ERROR, which the unit is handed at once. -/
theorem State.driveFrame_roundPart (h : s.line.idleRun = 4 ∨ s.line.echoCount < 7) (ho : r.owner = .discovery)
    (hpart : r.part ≠ .contend) (hd : s.disc = .inRound sw rd) : s.driveFrame r =
      if s.line.idleRun = 4 then { s with line := s.line.checked r }
      else { s with
        line := s.line.checked r
        roster := if rd.phase = .assignWait then s.roster.revert rd.address else s.roster
        disc := .inRound sw.noisier { rd with phase := .closing } } := by
  unfold LineSequencer.checked
  by_cases hi : s.line.idleRun = 4
  · rw [s.driveFrame_idle hi, if_pos hi, if_pos hi]
    rfl
  · have hecho : s.line.echoCount < 7 := h.resolve_left hi
    rw [if_neg hi, if_neg hi]
    unfold State.driveFrame State.failFrame
    dsimp only
    rw [if_neg hi, State.echoError_below _ (by simpa using hecho), if_pos ⟨ho, hpart⟩]
    by_cases hw : rd.phase = .assignWait <;>
      simp [State.discLineError, hd, hw, State.setRecord, State.setRoster, State.setDisc, Record.close]

/-- The end of a gap on the bit-time grid. -/
theorem exec_closingGapEnd (hr : s.line.record = some r) (hphase : r.phase = .closing) (htime : closingGap ≤ r.phaseTime)
    (hgrid : r.offGrid = false) : exec .closingGapEnd s = .next (s.gapEnd r) := by
  have hoccurs : s.closingGapEnd = (if r.offGrid then s.setBoundary false else s).gapEnd r :=
    State.onRecord_some hr (by simp [hphase, Record.due_closing, htime])
  rw [hgrid] at hoccurs
  exact congrArg Host.Outcome.next hoccurs

theorem State.gapEnd_slots (ho : r.owner = .discovery) (h : r.after = .slots) : s.gapEnd r =
    (s.setRecord (some { r with phase := .receiving, part := .slots, phaseTime := 0 })).discPhase .slots := by
  cases r; cases ho; cases h; rfl

theorem State.gapEnd_restart (ho : r.owner = .discovery) (h : r.after = .restart) : s.gapEnd r =
    s.driveFrame { r with frame := restartFrame, part := .restart, after := .finish } := by
  cases r; cases ho; cases h; rfl

theorem State.gapEnd_assign {i : Ident} {a : Nat} (ho : r.owner = .discovery) (h : r.after = .assign i a) : s.gapEnd r =
    s.driveFrame { r with
      frame := assignFrame i a, part := .assign, after := .finish, lr := 0, source := some a } := by
  cases r; cases ho; cases h; rfl

theorem State.gapEnd_release {a : Nat} (ho : r.owner = .discovery) (h : r.after = .release a) : s.gapEnd r =
    s.driveFrame { r with frame := releaseFrame a 1, part := .release, after := .finish } := by
  cases r; cases ho; cases h; rfl

/-- Settles O35: what follows the gap by what was decided, each frame as built and driven by `State.driveFrame_roundPart`. -/
theorem roundPartsFollow : Obligations.RoundPartsFollow := by
  intro s r sw rd hr ho hphase htime hgrid hd sent
  have hsent : ∀ r' : Record, s.line.idleRun = 4 ∨ s.line.echoCount < 7 → r'.owner = .discovery → r'.part ≠ .contend →
      Host.Outcome.next (s.driveFrame r') = (.next (sent r') : Answer) :=
    fun r' hline ho' hpart => congrArg Host.Outcome.next (State.driveFrame_roundPart hline ho' hpart hd)
  rw [exec_closingGapEnd hr hphase htime hgrid]
  refine ⟨fun h => ?_, fun hline => ⟨fun h => ⟨restartFrame, buildFrame_laidOut _ _ _, ?_⟩,
    fun i a h => ⟨assignFrame i a, buildFrame_laidOut _ _ _, ?_⟩,
    fun a h => ⟨releaseFrame a 1, buildFrame_laidOut _ _ _, ?_⟩⟩⟩
  · rw [State.gapEnd_slots ho h]
    simp [State.discPhase, hd, State.setRecord, State.setDisc]
  · rw [State.gapEnd_restart ho h]
    exact hsent _ hline ho (by simp)
  · rw [State.gapEnd_assign ho h]
    exact hsent _ hline ho (by simp)
  · rw [State.gapEnd_release ho h]
    exact hsent _ hline ho (by simp)

end Sys2Proof.Machine
end

section
/-! PROOFS. The grant decision in the scheduled window, and the Scheduler's choice that follows it (R65 to R68, R113, R115). -/

namespace Sys2Proof.Machine

open Sys2Proof

variable {s : State}

/-! ### The decision of a boundary (R65) -/

/-- The grant decision of the present boundary is to be made: RUNNING, nothing in flight, the boundary's decision not made yet, no
window end waiting. -/
structure State.Decides (s : State) : Prop where
  running  : s.run.state = .running
  free     : s.line.record = none
  boundary : s.line.boundary = true
  window   : s.timer.expired = false

theorem State.Decides.exec_eq (h : s.Decides) :
    exec .grantDecision s = .next (s.setBoundary false).grantDecided.chooseAtBoundary := by
  have hline : s.lineDue = false := by simp [State.lineDue, h.free]
  exact congrArg Host.Outcome.next (if_neg (by simp [h.boundary, hline, h.window]))

theorem State.Decides.mayGrant (h : s.Decides) : (s.setBoundary false).mayGrant = true := by
  simp [State.mayGrant, h.running, h.free, h.window]

theorem State.decision_setBoundary (b : Bool) : (s.setBoundary b).decision = s.decision := rfl

/-- What is decided is granted, and then the Scheduler's choice of the boundary is made where it is due. -/
theorem State.Decides.exec_grant (h : s.Decides) {g : Grant} (hg : s.decision = some g) :
    exec .grantDecision s = .next ((s.setBoundary false).grant g).chooseAtBoundary := by
  rw [h.exec_eq, State.grantDecided, if_pos h.mayGrant, State.decision_setBoundary, hg]

theorem State.Decides.exec_none (h : s.Decides) (hg : s.decision = none) :
    exec .grantDecision s = .next (s.setBoundary false).chooseAtBoundary := by
  rw [h.exec_eq, State.grantDecided, if_pos h.mayGrant, State.decision_setBoundary, hg]

/-! ### What is decided in the scheduled window (R65, R66, R67) -/

theorem State.decision_beacon (hw : s.timer.window = .sched) (hb : s.line.beaconPending = true)
    (hfit : 84 ≤ s.timer.left) : s.decision = some .beacon := by
  have hfits : s.fits beaconReservation = true := decide_eq_true hfit
  simp [State.decision, hw, hb, hfits]

theorem State.decision_claim {c : Claim} (hw : s.timer.window = .sched) (hb : s.line.beaconPending = false)
    (hc : s.line.schedClaim = some c) (hfit : 124 + 10 * (c.lc + c.lr) + s.rw ≤ s.timer.left) :
    s.decision = some (.sched c) := by
  have hfits : s.fits (c.reservation s.rw) = true := decide_eq_true hfit
  simp [State.decision, hw, hb, hc, hfits]

theorem State.decision_unfit {c : Claim} (hw : s.timer.window = .sched) (hb : s.line.beaconPending = false)
    (hc : s.line.schedClaim = some c) (hfit : s.timer.left < 124 + 10 * (c.lc + c.lr) + s.rw) : s.decision = none := by
  have hfits : s.fits (c.reservation s.rw) = false := decide_eq_false (Nat.not_le.2 hfit)
  simp [State.decision, hw, hb, hc, hfits]

theorem State.decision_noClaim (hw : s.timer.window = .sched) (hb : s.line.beaconPending = false)
    (hc : s.line.schedClaim = none) : s.decision = none := by
  simp [State.decision, hw, hb, hc]

/-! ### The choice after the decision (R113) -/

theorem State.not_claimExceeds_of_none (h : s.line.schedClaim = none) : ¬ s.claimExceeds := by
  simp [State.claimExceeds, h]

theorem State.chooseAtBoundary_of_not (h : ¬ s.claimExceeds) : s.chooseAtBoundary = s :=
  if_neg fun hdue => h (s.choiceDue_iff.1 hdue)

/-- The choice after a decision that leaves run state, timer and claim alone is due where it was due before. -/
theorem State.chooseAtBoundary_after {u : State} (h : u.claimExceeds ↔ s.claimExceeds) :
    (¬ s.claimExceeds → u.chooseAtBoundary = u) ∧
    (s.claimExceeds → u.Chosen u.chooseAtBoundary ∧ u.butSchedule u.chooseAtBoundary) := by
  rw [← h]
  refine ⟨State.chooseAtBoundary_of_not, fun hdue => ?_⟩
  rcases u.chooseAtBoundary_cases with ⟨hnot, -⟩ | ⟨-, hchosen⟩
  · exact absurd hdue hnot
  · exact hchosen

@[simp] theorem State.chooseAtBoundary_line_record : s.chooseAtBoundary.line.record = s.line.record := by
  unfold State.chooseAtBoundary
  split <;> simp

@[simp] theorem State.chooseAtBoundary_line_boundary : s.chooseAtBoundary.line.boundary = s.line.boundary := by
  unfold State.chooseAtBoundary
  split <;> simp

/-! ### The grants (R64, R67, R71, R115) -/

theorem LineSequencer.checked_schedClaim (l : LineSequencer) (r : Record) : (l.checked r).schedClaim = l.schedClaim := by
  unfold LineSequencer.checked
  split <;> rfl

theorem State.grant_beacon (hline : s.line.idleRun = 4 ∨ s.line.echoCount < 7) : s.grant .beacon =
    { s with line := { s.line with beaconPending := false }.checked (beaconRecord s.timer.cycle) } :=
  State.driveFrame_checked (s.setBeaconPending false) hline (by simp [beaconRecord])

/-- A grant of the Scheduler's claim: the due mark is consumed, and the frame carries the mailbox as it stands. -/
theorem State.grant_sched {c : Claim} {n : Nat} (ho : c.owner = .scheduler n)
    (hline : s.line.idleRun = 4 ∨ s.line.echoCount < 7) : s.grant (.sched c) =
      { s with line := { s.line with schedClaim := none }.checked (c.record (s.mailbox n).data s.rw) }.setEntry n
        { s.entry n with status := .inFlight, attempt := c.attempt } := by
  have hdrive := State.driveFrame_checked ((s.setSchedClaim none).setEntry n ((s.entry n).granted c.attempt))
    (r := c.record (s.mailbox n).data s.rw) hline (by simp [Claim.record])
  simp only [State.grant, ho]
  exact hdrive

/-- Settles O24: the four courses of the decision, each with its grant and the choice that follows. -/
theorem scheduledWindowGrants : Obligations.ScheduledWindowGrants := by
  intro s hrun hrec hbound hw hexp decided chosenAfter
  have hdecides : s.Decides := ⟨hrun, hrec, hbound, hexp⟩
  refine ⟨fun hb hfit hline => ?_, fun c n hb hc ho hfit hline => ?_, fun c hb hc hfit => ?_, fun hb hc => ?_⟩
  · refine ⟨_, beaconFrame s.timer.cycle, hdecides.exec_grant (State.decision_beacon hw hb hfit),
      buildFrame_laidOut _ _ _, ?_⟩
    rw [State.grant_beacon (s := s.setBoundary false) hline]
    exact State.chooseAtBoundary_after
      (State.claimExceeds_congr rfl rfl (LineSequencer.checked_schedClaim _ _))
  · obtain ⟨f, hf, hrecord⟩ := c.record_eq (s.mailbox n).data s.rw
    refine ⟨f, hf, ?_⟩
    rw [hdecides.exec_grant (State.decision_claim hw hb hc hfit),
      State.grant_sched (s := s.setBoundary false) ho hline,
      State.chooseAtBoundary_of_not (State.not_claimExceeds_of_none (LineSequencer.checked_schedClaim _ _)), ← hrecord]
    rfl
  · exact ⟨_, hdecides.exec_none (State.decision_unfit hw hb hc hfit),
      State.chooseAtBoundary_after (State.claimExceeds_congr rfl rfl rfl), by simp [hrec], by simp⟩
  · rw [hdecides.exec_none (State.decision_noClaim hw hb hc)]
    exact congrArg Host.Outcome.next (State.chooseAtBoundary_of_not (State.not_claimExceeds_of_none hc))

end Sys2Proof.Machine
end

section
/-! PROOFS. The station table under the outcomes of attempts, admission and reversion: which entry becomes what, and what is listed
(R25 to R34). -/

namespace Sys2Proof.Machine

open Sys2Proof

variable {r : Roster} {a : Nat}

/-! ### Attempts (R25 to R31) -/

/-- An entry that is ACTIVE, SUSPECT or LOST belongs to a station's address. -/
theorem Roster.station_of_state {st : StationState} (h : (r.entry a).state = st) (hst : st ≠ .free) :
    stationAddress a = true :=
  r.station_of_entry (by rw [h]; exact hst)

/-- What a successful attempt makes of an entry (R26, R28). -/
def StationEntry.succeeded (e : StationEntry) (o : LineOutcome) (cycle : Word) : StationEntry :=
  { e with
    state := .active, failures := 0, replied := true, lastReply := cycle
    conflict := e.conflict || o == .identityMismatch }

theorem Roster.success_becomes (ha : stationAddress a = true) (o : LineOutcome) (cycle : Word) :
    r.Becomes (r.success a o cycle) a ((r.entry a).succeeded o cycle)
      (if (r.entry a).state = .suspect ∨ o = .identityMismatch then r.listed a else r.changes) := by
  unfold Roster.success
  dsimp only
  split
  · exact r.change_becomes ha _
  · exact r.setEntry_becomes ha _

/-- What a failed attempt makes of an entry (R27, R28). -/
def Roster.failed (r : Roster) (e : StationEntry) (o : LineOutcome) : StationEntry :=
  { e with
    state := r.stateAfterFailure e.state (satSucc 15 e.failures), failures := satSucc 15 e.failures
    errorTotal := satSucc 65535 e.errorTotal, conflict := e.conflict || o == .addressMismatch }

theorem Roster.failure_becomes (ha : stationAddress a = true) (o : LineOutcome) :
    r.Becomes (r.failure a o) a (r.failed (r.entry a) o)
      (if (r.failed (r.entry a) o).state ≠ (r.entry a).state ∨ o = .addressMismatch then r.listed a else r.changes) := by
  by_cases h : (r.failed (r.entry a) o).state ≠ (r.entry a).state ∨ o = .addressMismatch
  · rw [if_pos h, show r.failure a o = r.change a (r.failed (r.entry a) o) from if_pos h]
    exact r.change_becomes ha _
  · rw [if_neg h, show r.failure a o = r.setEntry a (r.failed (r.entry a) o) from if_neg h]
    exact r.setEntry_becomes ha _

/-- The state after a failure at an entry in use (R27). -/
theorem Roster.stateAfterFailure_eq {st : StationState} (h : st = .active ∨ st = .suspect) (n : Nat) :
    r.stateAfterFailure st n =
      if r.lostAt ≤ n then .lost else if st = .suspect ∨ r.suspectAt ≤ n then .suspect else .active := by
  unfold Roster.stateAfterFailure
  rcases h with rfl | rfl <;> simp

section
variable {o : LineOutcome} {release : Bool} {cycle : Word}

theorem Roster.deliver_success (h : (r.entry a).state = .active ∨ (r.entry a).state = .suspect)
    (hc : o.classify = .success) (hr : (release && o == .ok) = false) :
    r.deliver release o a cycle = r.success a o cycle := by
  unfold Roster.deliver
  rcases h with h | h <;> simp only [h, hr, hc] <;> rfl

theorem Roster.deliver_failure (h : (r.entry a).state = .active ∨ (r.entry a).state = .suspect)
    (hc : o.classify = .failure) : r.deliver release o a cycle = r.failure a o := by
  have hr : (release && o == .ok) = false := by
    cases o <;> simp [LineOutcome.classify] at hc ⊢
  unfold Roster.deliver
  rcases h with h | h <;> simp only [h, hr, hc] <;> rfl

/-- The outcomes on which a RELEASE attempt gives its entry back (R29, R30). -/
def StationEntry.freedBy (e : StationEntry) (o : LineOutcome) : Prop :=
  (o = .ok ∧ (e.state = .active ∨ e.state = .suspect)) ∨ (o ≠ .aborted ∧ e.state = .lost)

theorem Roster.deliver_frees (h : (r.entry a).freedBy o) :
    r.deliver true o a cycle = r.change a (r.entry a).released := by
  unfold Roster.deliver
  rcases h with ⟨rfl, h | h⟩ | ⟨ho, h⟩ <;> simp [h]
  exact fun h => absurd h ho

/-- What leaves the Roster as it was: a neutral outcome, an entry not in use, and at a LOST entry all but the RELEASE that frees it
(R25, R30, R31). -/
theorem Roster.deliver_unchanged (hf : ¬ (release = true ∧ (r.entry a).freedBy o))
    (h : (o = .lineError ∨ o = .aborted) ∨ (r.entry a).state ≠ .active ∧ (r.entry a).state ≠ .suspect) :
    r.deliver release o a cycle = r := by
  unfold Roster.deliver
  unfold StationEntry.freedBy at hf
  cases hs : (r.entry a).state with
  | free | reserved | joining => rfl
  | active | suspect => rcases h with (rfl | rfl) | ⟨h, h'⟩ <;> simp_all [LineOutcome.classify]
  | lost => cases release <;> simp_all
end

/-- An attempt's end as a command, with the Roster it leaves. -/
theorem State.attemptEnds_exec {s : State} {rec : Record} {out : LineOutcome} (h : s.attemptEnds rec out) :
    ∃ t, exec .closingGapEnd s = .next t ∧
      t.roster = s.roster.deliver (rec.exchange == some .release) out rec.dest s.timer.cycle :=
  ⟨s.closingGapEnd, rfl, s.attemptEnds_roster h⟩

/-- Settles O42: the outcome is delivered as a success, whose effect is `Roster.success_becomes`. -/
theorem successfulAttempt : Obligations.SuccessfulAttempt := by
  intro s rec out hends hstate hout hrel
  obtain ⟨t, hexec, ht⟩ := s.attemptEnds_exec hends
  have hsuccess : out.classify = .success := by rcases hout with rfl | rfl | rfl <;> rfl
  have hnot : (rec.exchange == some .release && out == .ok) = false := by
    rw [Bool.eq_false_iff]
    simpa using hrel
  have ha : stationAddress rec.dest = true := s.roster.station_of_entry (by rcases hstate with h | h <;> simp [h])
  refine ⟨t, hexec, ?_⟩
  rw [ht, Roster.deliver_success hstate hsuccess hnot]
  exact Roster.success_becomes ha out s.timer.cycle

/-- Settles O43: the outcome is delivered as a failure, whose effect is `Roster.failure_becomes`. -/
theorem failedAttempt : Obligations.FailedAttempt := by
  intro s rec out hends hstate hout e n st
  obtain ⟨t, hexec, ht⟩ := s.attemptEnds_exec hends
  have hfailure : out.classify = .failure := by rcases hout with rfl | rfl | rfl | rfl <;> rfl
  have ha : stationAddress rec.dest = true := s.roster.station_of_entry (by rcases hstate with h | h <;> simp [h])
  have hst : s.roster.stateAfterFailure e.state n = st := Roster.stateAfterFailure_eq hstate n
  refine ⟨t, hexec, ?_⟩
  rw [ht, Roster.deliver_failure hstate hfailure, ← hst]
  exact Roster.failure_becomes ha out

/-- Settles O44: a RELEASE that frees its entry, and what leaves the Roster alone. -/
theorem releaseFreesEntry : Obligations.ReleaseFreesEntry := by
  intro s rec out hends e frees
  obtain ⟨t, hexec, ht⟩ := s.attemptEnds_exec hends
  refine ⟨fun hfrees => ⟨t, hexec, ?_⟩, fun hnot hkeep => ⟨t, hexec, ?_⟩⟩
  · obtain ⟨hex, hfreed⟩ := hfrees
    have ha : stationAddress rec.dest = true :=
      s.roster.station_of_entry (by rcases hfreed with ⟨-, h | h⟩ | ⟨-, h⟩ <;> simp [e, h])
    have hrelease : (rec.exchange == some .release) = true := by simp [hex]
    rw [ht, hrelease, Roster.deliver_frees hfreed]
    exact s.roster.change_becomes ha _
  · rw [ht]
    refine Roster.deliver_unchanged (fun h => hnot ⟨by simpa using h.1, h.2⟩) ?_
    rcases hkeep with h | h | hstate
    · exact .inl (.inl h)
    · exact .inl (.inr h)
    · refine .inr ?_
      rcases hstate with h | h | h | h <;> exact ⟨by simp [e, h], by simp [e, h]⟩

/-! ### Admission (R32) -/

/-- A known identity is admitted at the address that holds it. -/
theorem Roster.admission_known {i : Ident} (h : r.lookup i = some a) : r.admission i =
    (some a, r.change a { r.entry a with state := .joining, prior := (r.entry a).state }) := by
  simp [Roster.admission, h]

/-- An unknown identity is admitted at the lowest FREE address. -/
theorem Roster.admission_new {i : Ident} (h : r.lookup i = none) (hf : r.lowestFree = some a) : r.admission i =
    (some a, r.change a { r.entry a with state := .joining, prior := .free, identity := i }) := by
  simp [Roster.admission, h, hf, (r.lowestFree_some hf).2]

theorem Roster.admission_full {i : Ident} (h : r.lookup i = none) (hf : r.lowestFree = none) :
    r.admission i = (none, r) := by
  simp [Roster.admission, h, hf]

/-- Settles O32: the lookup decides, and then the lowest FREE address. -/
theorem admissionTable : Obligations.AdmissionTable := by
  intro r i hr hi
  refine ⟨fun a ha hstate hident => ?_, fun hnone => ⟨fun a ha hfree hlow => ?_, fun hfull => ?_⟩⟩
  · rw [Roster.admission_known (hr.lookup_eq hi hstate hident)]
    exact ⟨rfl, r.change_becomes ha _⟩
  · rw [Roster.admission_new ((r.lookup_none hi).2 hnone) (r.lowestFree_eq ha hfree hlow)]
    exact ⟨rfl, r.change_becomes ha _⟩
  · exact Roster.admission_full ((r.lookup_none hi).2 hnone) (r.lowestFree_none.2 hfull)

/-! ### Reversion (R34, R94) -/

theorem Roster.revert_joining (h : (r.entry a).state = .joining) : r.revert a = r.change a (r.entry a).reverted :=
  if_pos h

/-- The classification of a round's ASSIGN: the record closes, with a RELEASE to follow a timeout, and the unit takes the outcome
(R63, R78, R92, R94). -/
theorem State.classify_discovery {s : State} {rec : Record} (ho : rec.owner = .discovery) (out : LineOutcome)
    (reply : Reply) : s.classify rec out reply = (s.setRecord (some { rec with
      phase := .closing, outcome := some out, phaseTime := 0, reply
      after := if out = .timeout then .release (rec.source.getD 0) else .finish })).discAssignOutcome out := by
  simp [State.classify, ho, Record.close]

/-- The timeout of the ASSIGN at the unit: the entry reverts, the round goes into CLOSING. -/
theorem State.discAssignOutcome_timeout {s : State} {sw : Sweep} {rd : Round} (hd : s.disc = .inRound sw rd) :
    s.discAssignOutcome .timeout =
      (s.setRoster (s.roster.revert rd.address)).setDisc (.inRound sw { rd with phase := .closing }) := by
  simp [State.discAssignOutcome, hd]

/-- Settles O34: the response wait has expired, so the exchange is classified TIMEOUT and the unit reverts the entry. -/
theorem assignTimeoutReverts : Obligations.AssignTimeoutReverts := by
  intro s rec sw rd hrec howner hphase hsource htime hd hjoining e
  have hoccurs : s.responseWaitExpiry = s.classify { rec with offGrid := false } .timeout {} :=
    State.onRecord_some hrec (by simp [hphase, Record.due_waiting, htime])
  have ha : stationAddress rd.address = true := Roster.station_of_state hjoining (by decide)
  have hclosed := State.classify_discovery (s := s) (rec := { rec with offGrid := false }) howner .timeout {}
  have hunit := hoccurs.trans (hclosed.trans (State.discAssignOutcome_timeout hd))
  refine ⟨_, congrArg Host.Outcome.next hunit, rfl, ?_, ?_, rfl⟩
  · simp [hsource]
  · simp only [State.setDisc_roster, State.setRoster_roster, State.setRecord_roster, Roster.revert_joining hjoining]
    exact s.roster.change_becomes ha _

end Sys2Proof.Machine
end

section
/-! PROOFS. The Roster's commands and the two pops: THRESH_LOAD, PIN, UNPIN, CLEAR_CONFLICT, POP_CHANGE, POP_COMPLETION, as the host
sees them (R35 to R38, R41, R145, R171). -/

namespace Sys2Proof.Machine

open Sys2Proof

variable {s : State}

/-! ### THRESH_LOAD (R35) -/

theorem HostPort.thresholdsValid_iff (h : HostPort) : h.thresholdsValid = true ↔
    1 ≤ h.stagedSuspectAt ∧ h.stagedSuspectAt ≤ h.stagedLostAt ∧ h.stagedLostAt ≤ 15 ∧ 1 ≤ h.stagedDiscRetries ∧
      h.stagedDiscRetries ≤ 7 := by
  simp only [HostPort.thresholdsValid, Bool.and_eq_true, decide_eq_true_eq]
  omega

theorem State.exec_threshLoad (h : s.accepts) : exec .threshLoad s = .next (s.setCmd 0x20).threshLoad :=
  congrArg Host.Outcome.next (State.command_accepted h _ _)

/-- The entries after an accepted THRESH_LOAD: those in use are ACTIVE with count 0 (R35). -/
theorem StationEntry.rethresholded_eq (e : StationEntry) : e.rethresholded =
    if e.state = .active ∨ e.state = .suspect then { e with state := .active, failures := 0 } else e := by
  unfold StationEntry.rethresholded
  cases hs : e.state <;> simp

/-- Settles O45: the table after the load by `Roster.loadThresholds_entry`, the addresses added by `Roster.mem_suspects`. -/
theorem thresholdsLoaded : Obligations.ThresholdsLoaded := by
  intro s h suspectAt lostAt discRetries valid
  rw [State.exec_threshLoad h]
  have hvalid : (s.setCmd 0x20).host.thresholdsValid = true ↔ valid := HostPort.thresholdsValid_iff _
  refine ⟨fun hrun => ?_, fun hrun hbad => ?_, fun hrun hgood => ?_⟩
  · exact congrArg Host.Outcome.next (if_pos hrun)
  · have hbad' : ¬ (s.setCmd 0x20).host.thresholdsValid = true := fun hv => hbad (hvalid.1 hv)
    exact congrArg Host.Outcome.next ((if_neg (not_not.2 hrun)).trans (if_neg hbad'))
  · refine ⟨_, congrArg Host.Outcome.next ((if_neg (not_not.2 hrun)).trans (if_pos (hvalid.2 hgood))), rfl, ?_,
      fun a => ?_, (s.roster.suspects (Config.suspectRank s.freeIndex)).filter (· ∉ s.roster.changes), ?_, ?_, fun a => ?_⟩
    · obtain ⟨h1, h2, h3⟩ := s.roster.loadThresholds_thresholds suspectAt lostAt discRetries (Config.suspectRank s.freeIndex)
      exact congrArg₂ Prod.mk h1 (congrArg₂ Prod.mk h2 h3)
    · exact (s.roster.loadThresholds_entry _ _ _ _ a).trans (s.roster.entry a).rethresholded_eq
    · exact s.roster.loadThresholds_changes _ _ _ _
    · exact (s.roster.suspects_nodup _).filter _
    · simp [Roster.mem_suspects]

/-! ### PIN, UNPIN, CLEAR_CONFLICT (R36 to R38) -/

theorem State.exec_pin (h : s.accepts) : exec .pin s = .next (s.setCmd 0x21).pin :=
  congrArg Host.Outcome.next (State.command_accepted h _ _)

theorem State.exec_unpin (h : s.accepts) : exec .unpin s = .next (s.setCmd 0x22).unpin :=
  congrArg Host.Outcome.next (State.command_accepted h _ _)

theorem State.exec_clearConflict (h : s.accepts) : exec .clearConflict s = .next (s.setCmd 0x23).clearConflict :=
  congrArg Host.Outcome.next (State.command_accepted h _ _)

/-- The identity is held at no address but `a`, as PIN tests it (R36). -/
def Roster.heldOnlyAt (r : Roster) (i : Ident) (a : Nat) : Prop :=
  ∀ b, b ≠ a → (r.entry b).state ≠ .free → (r.entry b).identity ≠ i

theorem Roster.Lawful.lookup_any_iff {r : Roster} (hr : r.Lawful) {i : Ident} (hi : i ≠ 0) (a : Nat) :
    (r.lookup i).any (fun b => b != a) = true ↔ ¬ r.heldOnlyAt i a := by
  unfold Roster.heldOnlyAt
  push Not
  constructor
  · intro h
    obtain ⟨b, hb, hba⟩ := (Option.any_eq_true _ _).1 h
    obtain ⟨-, -, hstate, hident⟩ := r.lookup_some hb
    exact ⟨b, by simpa using hba, hstate, hident⟩
  · rintro ⟨b, hba, hstate, hident⟩
    simp [hr.lookup_eq hi hstate hident, hba]

section Pin
variable {a : Nat} {i : Ident} (ha : s.host.pinAddress = a) (hi : s.host.pinIdentity = i)
include ha hi

theorem State.pin_unknown (h : ¬ (i ≠ 0 ∧ stationAddress a = true)) : s.pin = s.setResult .badArg 0 := by
  subst ha hi
  exact if_pos (by simpa [Classical.or_iff_not_imp_left] using h)

variable (hknown : i ≠ 0 ∧ stationAddress a = true)
include hknown

/-- A stage that names an identity and a station passes the first check of PIN. -/
theorem State.pin_known : s.pin =
    if (s.roster.entry a).state = .joining then s.setResult .busy 0
    else if (s.roster.lookup i).any (fun b => b != a) then s.setResult .idInUse 0
    else if (s.roster.entry a).state = .free then
      (s.setRoster (s.roster.change a { s.roster.entry a with state := .reserved, pinned := true, identity := i })).setResult
        .done 0
    else if (s.roster.entry a).identity = i then
      (s.setRoster (s.roster.setEntry a { s.roster.entry a with pinned := true })).setResult .done 0
    else s.setResult .idInUse 0 := by
  subst ha hi
  exact if_neg fun h => h.elim hknown.1 (by simp [hknown.2])

/-- In a lawful table, what PIN answers past its first two checks (R36). -/
theorem State.pin_checked (hr : s.roster.Lawful) (hs : (s.roster.entry a).state ≠ .joining) :
    (¬ s.roster.heldOnlyAt i a → s.pin = s.setResult .idInUse 0) ∧
    (s.roster.heldOnlyAt i a → s.pin =
      if (s.roster.entry a).state = .free then
        (s.setRoster (s.roster.change a
          { s.roster.entry a with state := .reserved, pinned := true, identity := i })).setResult .done 0
      else if (s.roster.entry a).identity = i then
        (s.setRoster (s.roster.setEntry a { s.roster.entry a with pinned := true })).setResult .done 0
      else s.setResult .idInUse 0) := by
  have hheld := hr.lookup_any_iff hknown.1 a
  rw [State.pin_known ha hi hknown, if_neg hs]
  exact ⟨fun h => if_pos (hheld.2 h), fun h => if_neg fun hany => hheld.1 hany h⟩

end Pin

/-- UNPIN at a station's entry, by its state (R37). -/
theorem State.unpin_of_state {st : StationState} (ha : stationAddress s.host.argNat = true)
    (hst : (s.roster.entry s.host.argNat).state = st) : s.unpin =
    match (generalizing := false) st with
    | .joining => s.setResult .busy 0
    | .free => s.setResult .notFound 0
    | .reserved => (s.setRoster (s.roster.change s.host.argNat {})).setResult .done 0
    | .active | .suspect | .lost =>
      (s.setRoster (s.roster.setEntry s.host.argNat { s.roster.entry s.host.argNat with pinned := false })).setResult
        .done 0 := by
  subst hst
  exact if_neg (by rw [ha]; decide)

/-- CLEAR_CONFLICT at a station's entry, by its state (R38). -/
theorem State.clearConflict_of_state {st : StationState} (ha : stationAddress s.host.argNat = true)
    (hst : (s.roster.entry s.host.argNat).state = st) : s.clearConflict =
    match (generalizing := false) st with
    | .joining => s.setResult .busy 0
    | .free => s.setResult .notFound 0
    | .reserved | .active | .suspect | .lost =>
      (s.setRoster (s.roster.setEntry s.host.argNat { s.roster.entry s.host.argNat with conflict := false })).setResult
        .done 0 := by
  subst hst
  exact if_neg (by rw [ha]; decide)

/-- Settles O46: PIN by `State.pin_checked`, the other two by the state of the entry. -/
theorem pinCommands : Obligations.PinCommands := by
  intro s h hr became
  refine ⟨?_, ?_⟩
  · intro a i e known free
    have hpin := State.exec_pin h
    have hjoining : known → e.state = .joining → (s.setCmd 0x21).pin = s.replied 0x21 .busy 0 := fun hk hj =>
      (State.pin_known (s := s.setCmd 0x21) rfl rfl hk).trans (if_pos hj)
    have hchecked : known → e.state ≠ .joining → _ := fun hk hs =>
      State.pin_checked (s := s.setCmd 0x21) (a := a) (i := i) rfl rfl hk hr hs
    have hfree : known → free → (s.setCmd 0x21).pin = _ := fun hk hf => (hchecked hk hf.1).2 hf.2
    rw [hpin]
    refine ⟨fun hk => ?_, fun hk hj => ?_, fun hk hs hf => ?_, fun hk hf he => ?_, fun hk hf he hid => ?_,
      fun hk hf he hid => ?_⟩
    · exact congrArg Host.Outcome.next (State.pin_unknown (s := s.setCmd 0x21) rfl rfl hk)
    · exact congrArg Host.Outcome.next (hjoining hk hj)
    · exact congrArg Host.Outcome.next ((hchecked hk hs).1 fun hheld => hf ⟨hs, hheld⟩)
    · exact ⟨_, congrArg Host.Outcome.next ((hfree hk hf).trans (if_pos he)), s.roster.change_becomes hk.2 _, rfl⟩
    · exact ⟨_, congrArg Host.Outcome.next ((hfree hk hf).trans ((if_neg he).trans (if_pos hid))),
        s.roster.setEntry_becomes hk.2 _, rfl⟩
    · exact congrArg Host.Outcome.next ((hfree hk hf).trans ((if_neg he).trans (if_neg hid)))
  · intro a e
    have ha : e.state ≠ .free → stationAddress a = true := s.roster.station_of_entry
    have hunpin := @State.unpin_of_state (s.setCmd 0x22)
    have hclear := @State.clearConflict_of_state (s.setCmd 0x23)
    rw [State.exec_unpin h, State.exec_clearConflict h]
    refine ⟨fun hno => ?_, fun hj => ?_, fun hstation hf => ?_, fun hres => ?_, fun huse => ?_, fun hj hf => ?_⟩
    · exact ⟨congrArg Host.Outcome.next (if_pos hno), congrArg Host.Outcome.next (if_pos hno)⟩
    · have hstation := ha (by simp [hj])
      exact ⟨congrArg Host.Outcome.next (hunpin hstation hj), congrArg Host.Outcome.next (hclear hstation hj)⟩
    · exact ⟨congrArg Host.Outcome.next (hunpin hstation hf), congrArg Host.Outcome.next (hclear hstation hf)⟩
    · have hstation := ha (by simp [hres])
      exact ⟨_, congrArg Host.Outcome.next (hunpin hstation hres), s.roster.change_becomes hstation _, rfl⟩
    · have hstation := ha (by rcases huse with hst | hst | hst <;> simp [hst])
      have hdone := s.roster.setEntry_becomes hstation { e with pinned := false }
      rcases huse with hst | hst | hst <;>
        exact ⟨_, congrArg Host.Outcome.next (hunpin hstation hst), hdone, rfl⟩
    · have hstation := ha hf
      have hdone := s.roster.setEntry_becomes hstation { e with conflict := false }
      have hkept : e.state = .reserved ∨ e.state = .active ∨ e.state = .suspect ∨ e.state = .lost := by
        cases hst : e.state <;> simp [hst] at hj hf ⊢
      rcases hkept with hst | hst | hst | hst <;>
        exact ⟨_, congrArg Host.Outcome.next (hclear hstation hst), hdone, rfl⟩

/-! ### POP_CHANGE and POP_COMPLETION (R41, R145) -/

theorem State.exec_popChange (h : s.accepts) : exec .popChange s = .next (s.setCmd 0x24).popChange :=
  congrArg Host.Outcome.next (State.command_accepted h _ _)

theorem State.exec_popCompletion (h : s.accepts) : exec .popCompletion s = .next (s.setCmd 0x52).popCompletion :=
  congrArg Host.Outcome.next (State.command_accepted h _ _)

theorem State.popChange_nil (h : s.roster.changes = []) : s.popChange = s.setResult .empty 0 := by
  simp [State.popChange, h]

theorem State.popChange_cons {a : Nat} {rest : List Nat} (h : s.roster.changes = a :: rest) :
    s.popChange = (s.setRoster { s.roster with changes := rest }).setResult .done a := by
  simp [State.popChange, h]

theorem State.popCompletion_nil (h : s.req.completions = []) : s.popCompletion = s.setResult .empty 0 := by
  simp [State.popCompletion, h]

theorem State.popCompletion_cons {c : Completion} {rest : List Completion} (h : s.req.completions = c :: rest) :
    s.popCompletion = (({ s with req := { s.req with completions := rest } }).setResult .done c.tag).takeUp := by
  simp [State.popCompletion, h]

/-- Nothing is taken up outside RUNNING, over a head that is taken up already, or from an empty queue (R136). -/
theorem State.takeUp_idle (h : s.run.state ≠ .running ∨ s.req.head ≠ .untaken ∨ s.req.queue = []) : s.takeUp = s := by
  rcases h with h | h | h
  · exact s.takeUp_not (by simp [State.mayTakeUp, h])
  · exact s.takeUp_not (by simp [State.mayTakeUp, h])
  · exact s.takeUp_empty h

/-- Settles O48: what was at the head of the list is removed; a take-up by the laws of `State.takeUp`. -/
theorem popsReturnOldest : Obligations.PopsReturnOldest := by
  intro s h
  rw [State.exec_popChange h, State.exec_popCompletion h]
  refine ⟨fun hnil => ?_, fun a rest hcons => ?_, fun hnil => ?_, fun c rest hcons => ?_⟩
  · exact congrArg Host.Outcome.next (State.popChange_nil hnil)
  · exact congrArg Host.Outcome.next (State.popChange_cons hcons)
  · exact congrArg Host.Outcome.next (State.popCompletion_nil hnil)
  · rw [State.popCompletion_cons (s := s.setCmd 0x52) hcons]
    generalize hu : State.setResult _ .done c.tag = u
    have hpopped : u = { s with req := { s.req with completions := rest } }.replied 0x52 .done c.tag := hu.symm
    refine ⟨fun hidle => ?_, fun q behind hrun hhead hroom hq hkind htarget hfits => ?_, u.takeUp, rfl, ?_⟩
    · rw [State.takeUp_idle (by rw [hpopped]; exact hidle), hpopped]
    · have hmay : u.mayTakeUp = true := by
        rw [hpopped]
        simp [State.mayTakeUp, State.replied, hrun, hhead, hroom]
      rw [u.takeUp_claim (by rw [hpopped]; exact hq) hmay hkind (by rw [hpopped]; exact htarget)
        (by rw [hpopped]; exact hfits), hpopped]
      rfl
    · have hprefix := u.takeUp_frame.2.2
      simp only [State.takeUp_host, State.takeUp_roster, State.takeUp_run, State.takeUp_timer, State.takeUp_sched,
        State.takeUp_line_record]
      rw [hpopped] at hprefix ⊢
      exact ⟨rfl, hprefix, rfl, rfl, rfl, rfl, rfl⟩

end Sys2Proof.Machine
end

section
/-! PROOFS. Words and their fields: the snapshots of STATION_SNAP and SCHED_SNAP, and the event flags with their enables (R39, R42,
R109, R174, R175, R178). -/

namespace Sys2Proof

/-! ### The fields of a word -/

theorem getLsbD_bitAt (b : Bool) (pos k : Nat) :
    (bitAt b pos).getLsbD k = (b && (decide (k = pos) && decide (pos < 16))) := by
  have hone : ((1 : Word) <<< pos).getLsbD k = (decide (k = pos) && decide (pos < 16)) := by
    have h1 : (1 : Word).getLsbD (k - pos) = decide (k - pos = 0) := by simp [BitVec.getLsbD_one]
    rw [BitVec.getLsbD_shiftLeft, h1, Bool.eq_iff_iff]
    simp only [Bool.and_eq_true, Bool.not_eq_true', decide_eq_true_eq, decide_eq_false_iff_not]
    omega
  cases b
  · exact BitVec.getLsbD_zero
  · exact hone

/-- A single bit does not show in a field it lies outside of. -/
theorem extractLsb'_bitAt (b : Bool) {pos low width : Nat} (h : pos < low ∨ low + width ≤ pos) :
    (bitAt b pos).extractLsb' low width = 0 := by
  refine BitVec.eq_of_getLsbD_eq fun i hi => ?_
  have hpos : low + i ≠ pos := by omega
  rw [BitVec.getLsbD_extractLsb', getLsbD_bitAt]
  simp [hpos]

/-- A number in its own field, or in a narrower one at the bottom of it. -/
theorem toNat_extractLsb'_ofNat {w k n : Nat} (hk : k ≤ w) (hn : n < 2 ^ k) :
    ((BitVec.ofNat w n).extractLsb' 0 k).toNat = n := by
  rw [BitVec.extractLsb'_toNat, BitVec.toNat_ofNat, Nat.shiftRight_zero, Nat.mod_mod_of_dvd _ (Nat.pow_dvd_pow 2 hk),
    Nat.mod_eq_of_lt hn]

theorem pairWord_low {k hi lo : Nat} (hk : k ≤ 8) (hlo : lo < 2 ^ k) :
    ((pairWord hi lo).extractLsb' 0 k).toNat = lo := by
  rw [pairWord, BitVec.extractLsb'_append_eq_of_add_le (by omega), toNat_extractLsb'_ofNat hk hlo]

theorem pairWord_high {k hi lo : Nat} (hk : k ≤ 8) (hhi : hi < 2 ^ k) :
    ((pairWord hi lo).extractLsb' 8 k).toNat = hi := by
  rw [pairWord, BitVec.extractLsb'_append_eq_of_le (by omega), toNat_extractLsb'_ofNat hk hhi]

/-- Bits 7:0 of a pair, one by one. -/
theorem getLsbD_pairWord {k : Nat} (hk : k < 8) (hi lo : Nat) : (pairWord hi lo).getLsbD k = lo.testBit k := by
  rw [pairWord, BitVec.getLsbD_append, if_pos hk, BitVec.getLsbD_ofNat]
  simp [hk]

@[simp] theorem Word.loByte_append (hi lo : Byte) : Word.loByte (hi ++ lo : BitVec (8 + 8)) = lo :=
  BitVec.extractLsb'_append_eq_right

@[simp] theorem Word.hiByte_append (hi lo : Byte) : Word.hiByte (hi ++ lo : BitVec (8 + 8)) = hi :=
  BitVec.extractLsb'_append_eq_left

/-- Word `i` of a table made from a list. -/
theorem Machine.wordTable_get (n : Nat) (ws : List Word) {i : Nat} (hi : i < n) :
    (Machine.wordTable n ws).get i 0 = ws.getD i 0 :=
  Table.get_update _ _ hi _

end Sys2Proof

namespace Sys2Proof.Machine

open Sys2Proof

variable {s : State}

/-! ### The snapshots (R39, R109) -/

theorem identOfWords_identWords (i : Ident) :
    identOfWords (i.extractLsb' 32 16) (i.extractLsb' 16 16) (i.extractLsb' 0 16) = i := by
  unfold identOfWords
  refine BitVec.eq_of_getLsbD_eq fun k hk => ?_
  simp only [BitVec.getLsbD_append, BitVec.getLsbD_extractLsb']
  split
  · simp; omega
  · split
    · rw [show 16 + (k - 16) = k by omega]; simp; omega
    · rw [show 32 + (k - 16 - 16) = k by omega]; simp; omega

theorem StationState.code_lt (st : StationState) : st.code < 2 ^ 3 := by cases st <;> decide
theorem SchedStatus.code_lt (st : SchedStatus) : st.code < 2 ^ 3 := by cases st <;> decide
theorem LineOutcome.code_lt (o : LineOutcome) : o.code < 2 ^ 5 := by cases o <;> decide
theorem ReplyStatus.code_lt (st : ReplyStatus) : st.code < 2 ^ 2 := by cases st <;> decide

theorem State.exec_stationSnap (h : s.accepts) : exec .stationSnap s = .next (s.setCmd 0x25).stationSnap :=
  congrArg Host.Outcome.next (State.command_accepted h _ _)

theorem State.exec_schedSnap (h : s.accepts) : exec .schedSnap s = .next (s.setCmd 0x33).schedSnap :=
  congrArg Host.Outcome.next (State.command_accepted h _ _)

/-- Word 1 of a station's snapshot: state 2:0, pinned 4, conflict 5, replied 6, prior state 10:8. -/
theorem StationEntry.stateWord_fields (e : StationEntry) :
    let w := pairWord e.prior.code e.state.code ||| bitAt e.pinned 4 ||| bitAt e.conflict 5 ||| bitAt e.replied 6
    (w.extractLsb' 0 3).toNat = e.state.code ∧ w.getLsbD 4 = e.pinned ∧ w.getLsbD 5 = e.conflict ∧
      w.getLsbD 6 = e.replied ∧ (w.extractLsb' 8 3).toNat = e.prior.code := by
  have hfield : ∀ {low : Nat}, low + 3 ≤ 4 ∨ 8 ≤ low → ∀ w : Word,
      (w ||| bitAt e.pinned 4 ||| bitAt e.conflict 5 ||| bitAt e.replied 6).extractLsb' low 3 = w.extractLsb' low 3 := by
    intro low hlow w
    simp only [BitVec.extractLsb'_or]
    rw [extractLsb'_bitAt _ (by omega), extractLsb'_bitAt _ (by omega), extractLsb'_bitAt _ (by omega)]
    simp
  have hclear : ∀ k, 3 ≤ k → k < 8 → (pairWord e.prior.code e.state.code).getLsbD k = false := by
    intro k h3 h8
    rw [getLsbD_pairWord h8]
    exact Nat.testBit_lt_two_pow (Nat.lt_of_lt_of_le e.state.code_lt (Nat.pow_le_pow_right Nat.two_pos h3))
  intro w
  have hbit : ∀ k, 3 ≤ k → k < 8 → w.getLsbD k =
      ((bitAt e.pinned 4).getLsbD k || (bitAt e.conflict 5).getLsbD k || (bitAt e.replied 6).getLsbD k) := by
    intro k h3 h8
    simp only [w, BitVec.getLsbD_or, hclear k h3 h8, Bool.false_or]
  refine ⟨?_, ?_, ?_, ?_, ?_⟩
  · rw [hfield (by decide), pairWord_low (by decide) e.state.code_lt]
  · rw [hbit 4 (by decide) (by decide)]
    simp only [getLsbD_bitAt]
    simp
  · rw [hbit 5 (by decide) (by decide)]
    simp only [getLsbD_bitAt]
    simp
  · rw [hbit 6 (by decide) (by decide)]
    simp only [getLsbD_bitAt]
    simp
  · rw [hfield (by decide), pairWord_high (by decide) e.prior.code_lt]

/-- The thresholds in force, in the THRESH layout (section 12.2). -/
theorem Roster.threshWord_fields {r : Roster} (hr : r.Lawful) : (r.threshWord.extractLsb' 0 4).toNat = r.suspectAt ∧
    (r.threshWord.extractLsb' 4 4).toNat = r.lostAt ∧ (r.threshWord.extractLsb' 8 4).toNat = r.discRetries := by
  have ht := hr.thresholds
  unfold Roster.threshWord
  refine ⟨?_, ?_, ?_⟩
  · rw [BitVec.extractLsb'_append_eq_of_add_le (by decide), toNat_extractLsb'_ofNat (by decide) (by omega)]
  · rw [BitVec.extractLsb'_append_eq_of_le (by decide), BitVec.extractLsb'_append_eq_of_add_le (by decide),
      toNat_extractLsb'_ofNat (by decide) (by omega)]
  · rw [BitVec.extractLsb'_append_eq_of_le (by decide), BitVec.extractLsb'_append_eq_of_le (by decide),
      BitVec.extractLsb'_append_eq_of_add_le (by decide), toNat_extractLsb'_ofNat (by decide) (by omega)]

/-- Word 1 of a schedule entry's snapshot, before the disable-pending bit: status, attempt, last outcome, its reply status. -/
def SchedEntry.statusFields (e : SchedEntry) : Word :=
  (BitVec.ofNat 2 e.lastStatus.code ++ BitVec.ofNat 1 0 ++ BitVec.ofNat 5 e.lastOutcome.code ++ BitVec.ofNat 1 0
    ++ BitVec.ofNat 3 e.attempt ++ BitVec.ofNat 4 e.status.code : BitVec (2 + 1 + 5 + 1 + 3 + 4))

/-- Word 1 of a schedule entry's snapshot: status 2:0, disable pending 3, attempt 6:4, last outcome 12:8, its reply status
15:14. -/
theorem SchedEntry.statusWord_fields (e : SchedEntry) : let w := e.statusFields ||| bitAt e.disablePending 3
    (w.extractLsb' 0 3).toNat = e.status.code ∧ w.getLsbD 3 = e.disablePending ∧
      (e.attempt < 8 → (w.extractLsb' 4 3).toNat = e.attempt) ∧ (w.extractLsb' 8 5).toNat = e.lastOutcome.code ∧
      (w.extractLsb' 14 2).toNat = e.lastStatus.code := by
  intro w
  have hfield : ∀ {low width : Nat}, 3 < low ∨ low + width ≤ 3 →
      w.extractLsb' low width = e.statusFields.extractLsb' low width := by
    intro low width h
    simp only [w, BitVec.extractLsb'_or]
    rw [extractLsb'_bitAt _ h]
    simp
  refine ⟨?_, ?_, fun hattempt => ?_, ?_, ?_⟩
  · rw [hfield (by decide), SchedEntry.statusFields, BitVec.extractLsb'_append_eq_of_add_le (by decide),
      toNat_extractLsb'_ofNat (by decide) e.status.code_lt]
  · have hclear : e.status.code.testBit 3 = false := Nat.testBit_lt_two_pow e.status.code_lt
    rw [BitVec.getLsbD_or, getLsbD_bitAt, SchedEntry.statusFields, BitVec.getLsbD_append, if_pos (by decide),
      BitVec.getLsbD_ofNat, hclear]
    simp
  · rw [hfield (by decide), SchedEntry.statusFields, BitVec.extractLsb'_append_eq_of_le (by decide),
      BitVec.extractLsb'_append_eq_of_add_le (by decide), toNat_extractLsb'_ofNat (by decide) hattempt]
  · rw [hfield (by decide), SchedEntry.statusFields, BitVec.extractLsb'_append_eq_of_le (by decide),
      BitVec.extractLsb'_append_eq_of_le (by decide), BitVec.extractLsb'_append_eq_of_le (by decide),
      BitVec.extractLsb'_append_eq_of_add_le (by decide), toNat_extractLsb'_ofNat (by decide) e.lastOutcome.code_lt]
  · rw [hfield (by decide), SchedEntry.statusFields, BitVec.extractLsb'_append_eq_of_le (by decide),
      BitVec.extractLsb'_append_eq_of_le (by decide), BitVec.extractLsb'_append_eq_of_le (by decide),
      BitVec.extractLsb'_append_eq_of_le (by decide), BitVec.extractLsb'_append_eq_of_le (by decide),
      toNat_extractLsb'_ofNat (by decide) e.lastStatus.code_lt]

/-- A snapshot's words fill the snapshot area; of the Host Port nothing else changes but the result. -/
theorem State.setSnap_copied (s : State) (ws : List Word) (val : Nat) : ∃ t, (s.setSnap ws).setResult .done val = t ∧
    t = { s.setResult .done val with host := { (s.setResult .done val).host with snap := t.host.snap } } ∧
    ∀ k < 12, t.host.snap.get k 0 = ws.getD k 0 :=
  ⟨_, rfl, rfl, fun _ hk => wordTable_get 12 ws hk⟩

/-- The reservation SCHED_SNAP shows (R104, R109). -/
theorem SchedEntry.shownReservation_eq (e : SchedEntry) (rw : Nat) : BitVec.ofNat 16 (e.shownReservation rw) =
    if 1 ≤ e.length.toNat ∧ e.length.toNat ≤ 32 then BitVec.ofNat 16 (124 + 10 * e.length.toNat + rw) else 0 := by
  unfold SchedEntry.shownReservation
  split <;> rfl

/-- Settles O47: each word of the two snapshots, and the fields of those that hold several. -/
theorem snapshotsCopyEntries : Obligations.SnapshotsCopyEntries := by
  intro s h n copied word field
  rw [State.exec_stationSnap h, State.exec_schedSnap h]
  refine ⟨fun hno => ?_, fun hno => ?_, fun hstation hr => ?_, fun hn => ?_⟩
  · exact congrArg Host.Outcome.next (if_neg (ne_true_of_eq_false hno))
  · exact congrArg Host.Outcome.next (if_neg (ne_true_of_eq_false (decide_eq_false hno)))
  · obtain ⟨t, ht, hcopied, hword⟩ := (s.setCmd 0x25).setSnap_copied (s.roster.snapWords n) (s.roster.entry n).state.code
    obtain ⟨hstate, hpinned, hconflict, hreplied, hprior⟩ := (s.roster.entry n).stateWord_fields
    obtain ⟨hsuspect, hlost, hretries⟩ := Roster.threshWord_fields hr
    obtain ⟨hfailures, herrors, hrejoins⟩ := hr.ranges n
    have hn60 := (stationAddress_iff n).1 hstation
    have hfits : ∀ {k : Nat}, k ≤ 65535 → (BitVec.ofNat 16 k).toNat = k := fun hk =>
      Nat.mod_eq_of_lt (Nat.lt_succ_of_le hk)
    refine ⟨t, congrArg Host.Outcome.next ((if_pos hstation).trans ht), hcopied, ?_⟩
    simp (disch := decide) only [word, field, hword, Roster.snapWords, identWords, List.cons_append, List.nil_append,
      List.getD_cons_succ, List.getD_cons_zero]
    exact ⟨pairWord_low (by decide) (by decide), pairWord_high (by decide) (by omega), hstate, hpinned, hconflict, hreplied,
      hprior, identOfWords_identWords _, hfits (by omega), hfits herrors, hfits (by omega), trivial, hsuspect, hlost,
      hretries, trivial, trivial⟩
  · obtain ⟨t, ht, hcopied, hword⟩ := (s.setCmd 0x33).setSnap_copied (s.schedSnapWords n) (s.entry n).status.code
    obtain ⟨hstatus, hpending, hattempt, houtcome, hreply⟩ := (s.entry n).statusWord_fields
    refine ⟨t, congrArg Host.Outcome.next ((if_pos (decide_eq_true hn)).trans ht), hcopied, ?_⟩
    simp (disch := decide) only [word, field, hword, State.schedSnapWords, SchedEntry.configWords, List.cons_append,
      List.nil_append, List.getD_cons_succ, List.getD_cons_zero]
    exact ⟨pairWord_low (by decide) (by decide), pairWord_high (by decide) hn, hstatus, hpending, hattempt, houtcome, hreply,
      trivial, Word.loByte_append _ _, Word.hiByte_append _ _, trivial, trivial, trivial, Word.loByte_append _ _,
      Word.hiByte_append _ _,
      fun h => pairWord_low (by decide) h, fun h => pairWord_high (by decide) h, fun h => pairWord_low (by decide) h,
      fun h => pairWord_high (by decide) h, trivial, (s.entry n).shownReservation_eq s.rw⟩

/-! ### The event flags (R174, R175) -/

theorem State.exec_eventWrite (h : s.accepts) (v : Word) :
    exec (.eventWrite v) s = .next (s.setSticky (s.host.sticky.cleared v)) :=
  congrArg Host.Outcome.next (State.busWrite_accepted h _)

theorem State.exec_enableWrite (h : s.accepts) (v : Word) :
    exec (.enableWrite v) s = .next (s.setHost { s.host with enable := v.setWidth 9 }) :=
  congrArg Host.Outcome.next (State.busWrite_accepted h _)

/-- EVENT bit by bit (section 12.2). -/
theorem State.getLsbD_eventWord (s : State) (k : Nat) : s.eventWord.getLsbD k = match k with
    | 0 => s.cqFlag
    | 1 => s.chgFlag
    | 2 => s.faultFlag
    | 3 => s.host.sticky.mbx
    | 4 => s.host.sticky.cyc
    | 5 => s.host.sticky.starve
    | 6 => s.host.sticky.checkDone
    | 7 => s.host.sticky.initDone
    | 8 => s.host.sticky.drained
    | _ + 9 => false := by
  simp only [State.eventWord, BitVec.getLsbD_or, getLsbD_bitAt]
  match k with
  | 0 | 1 | 2 | 3 | 4 | 5 | 6 | 7 | 8 => simp
  | k + 9 => simp

theorem State.enableWord_getLsbD (s : State) (k : Nat) : s.enableWord.getLsbD k = s.host.enable.getLsbD k := by
  rw [State.enableWord, BitVec.getLsbD_setWidth]
  by_cases hk : k < 16
  · simp [hk]
  · rw [BitVec.getLsbD_of_ge s.host.enable k (by omega), Bool.and_false]

/-- A write to EVENT clears the sticky flags whose bits are 1, and no level flag (R174). -/
theorem State.getLsbD_eventWord_cleared (s : State) (v : Word) (k : Nat) :
    (s.setSticky (s.host.sticky.cleared v)).eventWord.getLsbD k =
      (s.eventWord.getLsbD k && !(decide (3 ≤ k) && v.getLsbD k)) := by
  rw [State.getLsbD_eventWord, State.getLsbD_eventWord]
  match k with
  | 0 | 1 | 2 => simp [State.cqFlag, State.chgFlag, State.faultFlag]
  | 3 | 4 | 5 | 6 | 7 | 8 => simp [Sticky.cleared]
  | k + 9 => simp

/-- A word is not 0 exactly when it has a bit set. -/
theorem bne_zero_iff_getLsbD {w : Word} : (w != 0) = true ↔ ∃ k, w.getLsbD k = true := by
  rw [bne_iff_ne]
  constructor
  · intro h
    by_contra hnone
    push Not at hnone
    exact h (BitVec.eq_of_getLsbD_eq fun k _ => by rw [Bool.eq_false_iff.2 (hnone k)]; exact BitVec.getLsbD_zero.symm)
  · rintro ⟨k, hk⟩ rfl
    simp at hk

theorem State.irqAsserted_iff (s : State) : s.irqAsserted = true ↔
    s.accepts ∧ ∃ k, s.eventWord.getLsbD k = true ∧ s.host.enable.getLsbD k = true := by
  have hbits : (s.eventWord &&& s.enableWord != 0) = true ↔
      ∃ k, s.eventWord.getLsbD k = true ∧ s.host.enable.getLsbD k = true := by
    simp only [bne_zero_iff_getLsbD, BitVec.getLsbD_and, State.enableWord_getLsbD, Bool.and_eq_true]
  rw [← hbits]
  simp only [State.irqAsserted, Bool.and_eq_true, Bool.not_eq_true', bne_iff_ne, State.accepts]
  tauto

/-- Settles O59: EVENT bit by bit (`State.getLsbD_eventWord`), and the interrupt from the bits. -/
theorem eventFlagsAndEnables : Obligations.EventFlagsAndEnables := by
  refine ⟨fun s v h => ⟨_, State.exec_eventWrite h v, rfl, s.getLsbD_eventWord_cleared v⟩,
    fun s v h => ?_, fun s => ⟨?_, ?_, ?_, fun k hk => ?_, s.irqAsserted_iff⟩⟩
  · rw [State.exec_enableWrite h, BitVec.setWidth_eq_extractLsb' (by decide)]
    rfl
  · rw [State.getLsbD_eventWord]
    simp [State.cqFlag]
  · rw [State.getLsbD_eventWord]
    simp [State.chgFlag]
  · rw [State.getLsbD_eventWord]
    simp [State.faultFlag]
  · obtain ⟨j, rfl⟩ := Nat.exists_eq_add_of_le' hk
    exact s.getLsbD_eventWord (j + 9)

end Sys2Proof.Machine
end

section
/-! PROOFS. The block right after reset: its values, and the laws it meets (R22, R44, R45, R55, R82, R83, R105, R121, R134, R149 to
R151, R177). -/

namespace Sys2Proof.Machine

open Sys2Proof

theorem Roster.entry_reset (a : Nat) : ({} : Roster).entry a = {} := by
  unfold Roster.entry
  split
  · exact Table.get_fill _ _
  · rfl

theorem State.entry_reset (n : Nat) : State.reset.entry n = {} := Table.get_fill _ _

theorem State.mailbox_reset (n : Nat) : State.reset.mailbox n = {} := Table.get_fill _ _

/-- Settles O2: the entries, the mailboxes and the registers one by one, the rest by definition. -/
theorem resetValues : Obligations.ResetValues := by
  have hregisters : ∀ addr : BitVec 5, State.reset.readReg addr = match addr.toNat with
      | 0 => 0x7230 | 1 => 0x0001 | 16 => 0x0030 | 17 => 0x0010 | 18 => 0x007D | 19 => 0x007D | 20 => 0x0010 | 21 => 0x0463
      | _ => 0 := by decide
  exact ⟨rfl, rfl, Roster.entry_reset, rfl, rfl, rfl, rfl, rfl, rfl, rfl, rfl, rfl, rfl, rfl, rfl, rfl, rfl, rfl, rfl, rfl, rfl,
    rfl, State.entry_reset, State.mailbox_reset, rfl, rfl, rfl, rfl, rfl, rfl, rfl, rfl, rfl, rfl, rfl, rfl, rfl, hregisters⟩

/-! ### The laws at reset -/

theorem State.initLawful_reset : State.reset.InitLawful := ⟨fun h => absurd h (by decide), fun _ => ⟨rfl, .inl rfl, rfl⟩⟩

theorem State.runLawful_reset : State.reset.RunLawful where
  window := by decide
  quiet := fun _ => rfl
  runsOut := fun h => absurd h (by decide)
  draining := fun h => absurd h (by decide)
  claims := fun _ => ⟨rfl, rfl, rfl, rfl⟩
  roundClaim := fun h => absurd h (by decide)
  reqClaim := fun h => absurd h (by decide)
  fault := fun h => absurd h (by decide)
  check := by decide
  reset := fun h => absurd h (by decide)

theorem TimingSet.valid_reset : ({} : TimingSet).Valid := by
  unfold TimingSet.Valid
  decide

theorem State.timerLawful_reset : State.reset.timer.Lawful where
  inForce := TimingSet.valid_reset
  pending := TimingSet.valid_reset
  same := fun _ => rfl
  counts := fun h => absurd rfl h

theorem StationEntry.inRange_free : ({} : StationEntry).InRange := by
  unfold StationEntry.InRange
  decide

theorem StationEntry.identified_free : ({} : StationEntry).Identified := ⟨fun _ => ⟨rfl, rfl, rfl⟩, fun h => absurd rfl h⟩

theorem Roster.lawful_reset : ({} : Roster).Lawful where
  ranges a := by rw [Roster.entry_reset]; exact StationEntry.inRange_free
  identified a := by rw [Roster.entry_reset]; exact StationEntry.identified_free
  reserved a h := by rw [Roster.entry_reset] at h; exact absurd h (by decide)
  distinct a b h := absurd (congrArg StationEntry.state (Roster.entry_reset a)) h
  changes := ⟨List.nodup_nil, fun _ h => absurd h List.not_mem_nil⟩
  thresholds := by decide

theorem Roster.healthLawful_reset : ({} : Roster).HealthLawful where
  thresholds := by decide
  counts a := by rw [Roster.entry_reset]; exact ⟨fun h => absurd h (by decide), fun h => absurd h (by decide)⟩
  joining a h := by rw [Roster.entry_reset] at h; exact absurd h (by decide)

/-- Where no entry is JOINING, no round waits for its ASSIGN and nothing is in flight, the laws of JOINING hold. -/
theorem State.joiningLawful_of_none {s : State} (hentry : ∀ a, (s.roster.entry a).state ≠ .joining)
    (hunit : s.disc.joining = none) (hline : s.line.record = none) : s.JoiningLawful where
  joining a := by simp [hentry a, hunit]
  exchange a h := by simp [hunit] at h
  prior a h := absurd h (hentry a)
  parts r h := by simp [hline] at h

theorem State.joiningLawful_reset : State.reset.JoiningLawful :=
  State.joiningLawful_of_none (fun a => by rw [show State.reset.roster = {} from rfl, Roster.entry_reset]; decide) rfl rfl

theorem State.schedLawful_reset : State.reset.SchedLawful where
  enabled n h := by simp [State.entry_reset, SchedEntry.enabled] at h
  placed h := absurd h (by decide)
  claim c n h := by cases h

theorem State.engineLawful_reset : State.reset.EngineLawful where
  onLine := by decide
  claim := by decide
  claimOwner c h := by cases h
  round := by decide
  roundClaim := by decide
  head h := absurd rfl h
  reservations := rfl
  room := by decide
  queue := by decide

/-- Settles O7: each law by its own lemma. -/
theorem lawsHoldAtReset : Obligations.LawsHoldAtReset :=
  ⟨State.initLawful_reset, State.runLawful_reset, State.timerLawful_reset, by unfold State.LineCountsLawful; decide,
    Roster.lawful_reset, State.joiningLawful_reset, Roster.healthLawful_reset, State.schedLawful_reset,
    State.engineLawful_reset⟩

end Sys2Proof.Machine
end

section
/-! PROOFS. The laws of the station table under each of its operations (R21, R24, R27, R32 to R38, R40). -/

namespace Sys2Proof.Machine

open Sys2Proof

variable {r r' : Roster} {a : Nat} {e : StationEntry}

/-! ### One entry replaced -/

/-- The table after one station's entry has become `e`, its address listed or not. -/
structure Roster.Replaces (r r' : Roster) (a : Nat) (e : StationEntry) : Prop where
  station : stationAddress a = true
  becomes : ∃ changes, (changes = r.changes ∨ changes = r.listed a) ∧ r.Becomes r' a e changes

theorem Roster.setEntry_replaces (ha : stationAddress a = true) (e : StationEntry) : r.Replaces (r.setEntry a e) a e :=
  ⟨ha, _, .inl rfl, r.setEntry_becomes ha e⟩

theorem Roster.change_replaces (ha : stationAddress a = true) (e : StationEntry) : r.Replaces (r.change a e) a e :=
  ⟨ha, _, .inr rfl, r.change_becomes ha e⟩

theorem Roster.Replaces.of_ite {p : Prop} [Decidable p] (ha : stationAddress a = true)
    (h : r.Becomes r' a e (if p then r.listed a else r.changes)) : r.Replaces r' a e :=
  ⟨ha, _, by split <;> simp, h⟩

theorem Roster.Replaces.entry_eq (h : r.Replaces r' a e) (b : Nat) : r'.entry b = if b = a then e else r.entry b := by
  obtain ⟨-, changes, -, hb⟩ := h
  split
  · next hba => rw [hba, hb.entry]
  · next hba => rw [hb.others b hba]

theorem Roster.Replaces.thresholds_eq (h : r.Replaces r' a e) :
    r'.suspectAt = r.suspectAt ∧ r'.lostAt = r.lostAt ∧ r'.discRetries = r.discRetries :=
  let ⟨_, _, _, hb⟩ := h
  hb.thresholds

/-- What an entry must hold by itself in a lawful table: its ranges, its identity, the pin of a RESERVED one (R21, R24, R37). -/
structure StationEntry.Sound (e : StationEntry) : Prop where
  range      : e.InRange
  identified : e.Identified
  reserved   : e.state = .reserved ∨ (e.state = .joining ∧ e.prior = .reserved) → e.pinned = true

theorem Roster.Lawful.sound (h : r.Lawful) (a : Nat) : (r.entry a).Sound := ⟨h.ranges a, h.identified a, h.reserved a⟩

/-- In a lawful table the identity of an entry is held nowhere else (R24). -/
theorem Roster.Lawful.heldOnlyAt (h : r.Lawful) (ha : (r.entry a).state ≠ .free) :
    r.heldOnlyAt (r.entry a).identity a :=
  fun b hba hb hid => hba (h.distinct b a hb ha hid)

theorem Roster.listed_lawful (h : r.changes.Nodup ∧ ∀ b ∈ r.changes, stationAddress b = true)
    (ha : stationAddress a = true) : (r.listed a).Nodup ∧ ∀ b ∈ r.listed a, stationAddress b = true := by
  unfold Roster.listed
  split
  · exact h
  · next hnew =>
    refine ⟨List.Nodup.append h.1 (List.nodup_singleton a) ?_, fun b hb => ?_⟩
    · simpa using hnew
    · rcases List.mem_append.1 hb with hb | hb
      · exact h.2 b hb
      · rw [List.mem_singleton.1 hb]; exact ha

/-- A lawful table stays lawful when an entry becomes a sound one whose identity no other entry holds. -/
theorem Roster.Lawful.replaces (h : r.Lawful) (hr : r.Replaces r' a e) (he : e.Sound)
    (hid : e.state ≠ .free → r.heldOnlyAt e.identity a) : r'.Lawful := by
  have hentry := hr.entry_eq
  have hsound : ∀ b, (r'.entry b).Sound := fun b => by
    rw [hentry]
    split
    · exact he
    · exact h.sound b
  refine ⟨fun b => (hsound b).range, fun b => (hsound b).identified, fun b => (hsound b).reserved, fun b c hb hc hbc => ?_,
    ?_, ?_⟩
  · rw [hentry] at hb hbc
    rw [hentry] at hc hbc
    split at hb <;> split at hc
    · next hba hca => exact hba.trans hca.symm
    · next hba hca =>
      rw [if_pos hba, if_neg hca] at hbc
      exact absurd hbc.symm (hid hb c hca hc)
    · next hba hca =>
      rw [if_neg hba, if_pos hca] at hbc
      exact absurd hbc (hid hc b hba hb)
    · next hba hca =>
      rw [if_neg hba, if_neg hca] at hbc
      exact h.distinct b c hb hc hbc
  · obtain ⟨hstation, changes, hlist, hb⟩ := hr
    rw [hb.changes]
    rcases hlist with rfl | rfl
    · exact h.changes
    · exact Roster.listed_lawful h.changes hstation
  · obtain ⟨hsuspect, hlost, hretries⟩ := hr.thresholds_eq
    rw [hsuspect, hlost, hretries]
    exact h.thresholds

/-- The count of an entry agrees with its state, or with the state before JOINING (R27). -/
structure Roster.Healthy (r : Roster) (e : StationEntry) : Prop where
  count   : r.countAgrees e.state e.failures
  joining : e.state = .joining → r.countAgrees e.prior e.failures

theorem Roster.HealthLawful.healthy (h : r.HealthLawful) (a : Nat) : r.Healthy (r.entry a) := ⟨h.counts a, h.joining a⟩

theorem Roster.HealthLawful.replaces (h : r.HealthLawful) (hr : r.Replaces r' a e) (he : r.Healthy e) :
    r'.HealthLawful := by
  obtain ⟨hsuspect, hlost, -⟩ := hr.thresholds_eq
  have hagrees : ∀ st n, r'.countAgrees st n ↔ r.countAgrees st n := fun st n => by
    unfold Roster.countAgrees; rw [hsuspect, hlost]
  have hhealthy : ∀ b, r.Healthy (r'.entry b) := fun b => by
    rw [hr.entry_eq]
    split
    · exact he
    · exact h.healthy b
  refine ⟨by rw [hsuspect, hlost]; exact h.thresholds, fun b => (hagrees _ _).2 (hhealthy b).count,
    fun b hb => (hagrees _ _).2 ((hhealthy b).joining hb)⟩

/-- An entry that is neither ACTIVE, SUSPECT nor JOINING is healthy with any count. -/
theorem Roster.healthy_of_state (h : e.state = .free ∨ e.state = .reserved ∨ e.state = .lost) : r.Healthy e := by
  constructor
  · constructor <;> intro hst <;> rw [hst] at h <;> simp at h
  · intro hst; rw [hst] at h; simp at h

/-- An ACTIVE entry with count 0 is healthy (R26, R33, R35). -/
theorem Roster.healthy_active (ht : 1 ≤ r.suspectAt) (hst : e.state = .active) (hn : e.failures = 0) : r.Healthy e := by
  constructor
  · rw [hst, hn]
    exact ⟨fun _ => ht, fun h => absurd h (by decide)⟩
  · intro h; rw [hst] at h; exact absurd h (by decide)

/-! ### What becomes of an entry outside JOINING -/

/-- ACTIVE, SUSPECT and LOST are neither FREE nor JOINING. -/
theorem StationState.inUse_ne {st : StationState} (h : st = .active ∨ st = .suspect ∨ st = .lost) :
    st ≠ .free ∧ st ≠ .joining := by
  rcases h with rfl | rfl | rfl <;> decide

theorem StationState.issuable_ne {st : StationState} (h : st = .active ∨ st = .suspect) :
    st ≠ .free ∧ st ≠ .joining :=
  StationState.inUse_ne (h.imp_right .inl)

/-- What attempts and the host's commands make of an entry: none of them touches one that is JOINING (R26 to R31, R36 to R38). -/
inductive Roster.EntryMove (r : Roster) (a : Nat) : StationEntry → Prop
  | succeeded (h : (r.entry a).state = .active ∨ (r.entry a).state = .suspect) (o : LineOutcome) (cycle : Word) :
      r.EntryMove a ((r.entry a).succeeded o cycle)
  | failed (h : (r.entry a).state = .active ∨ (r.entry a).state = .suspect) (o : LineOutcome) :
      r.EntryMove a (r.failed (r.entry a) o)
  | released (h : (r.entry a).state = .active ∨ (r.entry a).state = .suspect ∨ (r.entry a).state = .lost) :
      r.EntryMove a (r.entry a).released
  | reserved (h : (r.entry a).state = .free) (i : Ident) (hi : i ≠ 0) (hheld : r.heldOnlyAt i a) :
      r.EntryMove a { r.entry a with state := .reserved, pinned := true, identity := i }
  | pinned (h : (r.entry a).state ≠ .free) (hj : (r.entry a).state ≠ .joining) :
      r.EntryMove a { r.entry a with pinned := true }
  | unpinned (h : (r.entry a).state = .active ∨ (r.entry a).state = .suspect ∨ (r.entry a).state = .lost) :
      r.EntryMove a { r.entry a with pinned := false }
  | unreserved (h : (r.entry a).state = .reserved) : r.EntryMove a {}
  | cleared (h : (r.entry a).state ≠ .free) (hj : (r.entry a).state ≠ .joining) :
      r.EntryMove a { r.entry a with conflict := false }

/-- An entry that is RESERVED, pinned and holds an identity, or FREE with every field 0, is what a release leaves (R29). -/
theorem StationEntry.released_sound (h : e.Sound) (hstate : e.state ≠ .free) : e.released.Sound := by
  unfold StationEntry.released
  split
  · exact ⟨by simp [StationEntry.InRange], ⟨fun hf => (by cases hf), fun _ => h.identified.2 hstate⟩, fun _ => rfl⟩
  · exact ⟨StationEntry.inRange_free, StationEntry.identified_free, fun h => absurd h (by decide)⟩

theorem Roster.stateAfterFailure_inUse {st : StationState} (h : st = .active ∨ st = .suspect) (n : Nat) :
    r.stateAfterFailure st n = .lost ∨ r.stateAfterFailure st n = .suspect ∨ r.stateAfterFailure st n = .active := by
  rw [Roster.stateAfterFailure_eq h]
  split
  · exact .inl rfl
  · split
    · exact .inr (.inl rfl)
    · exact .inr (.inr rfl)

/-- An entry whose state is in use, with the identity and the ranges kept, is sound. -/
theorem StationEntry.Sound.inUse {e e' : StationEntry} (h : e.Sound) (hne : e.state ≠ .free)
    (hst : e'.state = .active ∨ e'.state = .suspect ∨ e'.state = .lost) (hid : e'.identity = e.identity)
    (hrange : e'.InRange) : e'.Sound := by
  refine ⟨hrange, ⟨fun hf => ?_, fun _ => hid ▸ h.identified.2 hne⟩, fun hr => ?_⟩
  · rw [hf] at hst; simp at hst
  · rcases hr with hr | ⟨hr, -⟩ <;> rw [hr] at hst <;> simp at hst

theorem satSucc_le (top n : Nat) : satSucc top n ≤ top := Nat.min_le_right _ _

theorem Roster.EntryMove.sound (hmove : r.EntryMove a e) (h : (r.entry a).Sound) : e.Sound := by
  cases hmove with
  | succeeded hst o cycle =>
    exact h.inUse (StationState.issuable_ne hst).1 (.inl rfl) rfl ⟨Nat.zero_le _, h.range.2⟩
  | failed hst o =>
    have hafter := r.stateAfterFailure_inUse hst (satSucc 15 (r.entry a).failures)
    exact h.inUse (StationState.issuable_ne hst).1 (by simp only [Roster.failed]; tauto) rfl
      ⟨satSucc_le _ _, satSucc_le _ _, h.range.2.2⟩
  | released hst => exact StationEntry.released_sound h (StationState.inUse_ne hst).1
  | reserved hst i hi hheld => exact ⟨h.range, ⟨fun hf => (by cases hf), fun _ => hi⟩, fun _ => rfl⟩
  | pinned hne hj => exact ⟨h.range, ⟨fun hf => absurd hf hne, h.identified.2⟩, fun _ => rfl⟩
  | unpinned hst =>
    exact h.inUse (StationState.inUse_ne hst).1 (by tauto) rfl h.range
  | unreserved hst => exact ⟨StationEntry.inRange_free, StationEntry.identified_free, fun h => absurd h (by decide)⟩
  | cleared hne hj => exact ⟨h.range, ⟨fun hf => absurd hf hne, h.identified.2⟩, h.reserved⟩

theorem StationEntry.released_state (e : StationEntry) : e.released.state = .reserved ∧ e.released.identity = e.identity ∨
    e.released.state = .free := by
  unfold StationEntry.released
  split
  · exact .inl ⟨rfl, rfl⟩
  · exact .inr rfl

/-- The identity an entry holds after a move is held nowhere else. -/
theorem Roster.EntryMove.heldOnlyAt (hmove : r.EntryMove a e) (h : r.Lawful) (hne : e.state ≠ .free) :
    r.heldOnlyAt e.identity a := by
  cases hmove with
  | succeeded hst o cycle => exact h.heldOnlyAt (StationState.issuable_ne hst).1
  | failed hst o => exact h.heldOnlyAt (StationState.issuable_ne hst).1
  | released hst =>
    rcases (r.entry a).released_state with ⟨-, hid⟩ | hfree
    · rw [hid]; exact h.heldOnlyAt (StationState.inUse_ne hst).1
    · exact absurd hfree hne
  | reserved hst i hi hheld => exact hheld
  | pinned hst hj => exact h.heldOnlyAt hst
  | unpinned hst => exact h.heldOnlyAt (StationState.inUse_ne hst).1
  | unreserved hst => exact absurd rfl hne
  | cleared hst hj => exact h.heldOnlyAt hst

/-- A failure keeps the count in step with the state (R27). -/
theorem Roster.HealthLawful.failed_healthy (h : r.HealthLawful)
    (hst : (r.entry a).state = .active ∨ (r.entry a).state = .suspect) (o : LineOutcome) :
    r.Healthy (r.failed (r.entry a) o) := by
  obtain ⟨-, -, hlost15⟩ := h.thresholds
  obtain ⟨hactive, hsuspect⟩ := h.counts a
  have hafter := r.stateAfterFailure_eq hst (satSucc 15 (r.entry a).failures)
  have hinUse := r.stateAfterFailure_inUse hst (satSucc 15 (r.entry a).failures)
  refine ⟨?_, fun hj => ?_⟩
  · simp only [Roster.failed, Roster.countAgrees, hafter]
    unfold satSucc
    split
    · simp
    · split
      · next hlost hsus =>
        refine ⟨fun hc => absurd hc (by decide), fun _ => ⟨?_, by omega⟩⟩
        rcases hsus with hsus | hsus
        · have := hsuspect hsus; omega
        · exact hsus
      · next hlost hsus =>
        push Not at hsus
        exact ⟨fun _ => hsus.2, fun hc => absurd hc (by decide)⟩
  · simp only [Roster.failed] at hj
    rw [hj] at hinUse
    simp at hinUse

theorem Roster.EntryMove.healthy (hmove : r.EntryMove a e) (h : r.HealthLawful) : r.Healthy e := by
  cases hmove with
  | succeeded hst o cycle => exact Roster.healthy_active h.thresholds.1 rfl rfl
  | failed hst o => exact h.failed_healthy hst o
  | released hst =>
    refine Roster.healthy_of_state ?_
    rcases (r.entry a).released_state with ⟨hres, -⟩ | hfree
    · exact .inr (.inl hres)
    · exact .inl hfree
  | reserved hst i hi hheld => exact Roster.healthy_of_state (.inr (.inl rfl))
  | unreserved hst => exact Roster.healthy_of_state (.inl rfl)
  | pinned _ _ | unpinned _ | cleared _ _ => exact ⟨(h.healthy a).count, (h.healthy a).joining⟩

/-- No move touches a JOINING entry or makes one. -/
theorem Roster.EntryMove.not_joining (hmove : r.EntryMove a e) :
    (r.entry a).state ≠ .joining ∧ e.state ≠ .joining := by
  cases hmove with
  | succeeded hst o cycle => exact ⟨(StationState.issuable_ne hst).2, by simp [StationEntry.succeeded]⟩
  | failed hst o =>
    refine ⟨(StationState.issuable_ne hst).2, ?_⟩
    rcases r.stateAfterFailure_inUse hst (satSucc 15 (r.entry a).failures) with h | h | h <;> simp [Roster.failed, h]
  | released hst =>
    refine ⟨(StationState.inUse_ne hst).2, ?_⟩
    rcases (r.entry a).released_state with ⟨h, -⟩ | h <;> simp [h]
  | reserved hst i hi hheld => exact ⟨by simp [hst], by simp⟩
  | pinned hst hj => exact ⟨hj, hj⟩
  | unpinned hst => exact ⟨(StationState.inUse_ne hst).2, (StationState.inUse_ne hst).2⟩
  | unreserved hst => exact ⟨by simp [hst], by simp⟩
  | cleared hst hj => exact ⟨hj, hj⟩

/-! ### Edits of the table: attempts and the host's commands -/

/-- An edit of the table that concerns no JOINING entry: nothing, the oldest change popped, or one entry moved (R25 to R31, R36 to
R38, R41). -/
inductive Roster.Edit (r : Roster) : Roster → Prop
  | same : r.Edit r
  | popped {a : Nat} {rest : List Nat} (h : r.changes = a :: rest) : r.Edit { r with changes := rest }
  | moved {r' : Roster} {a : Nat} {e : StationEntry} (hmove : r.EntryMove a e) (hreplaces : r.Replaces r' a e) : r.Edit r'

theorem Roster.Edit.lawful (h : r.Edit r') (hr : r.Lawful) : r'.Lawful := by
  cases h with
  | same => exact hr
  | popped hpop =>
    obtain ⟨hnodup, hstations⟩ := hr.changes
    rw [hpop] at hnodup hstations
    exact { hr with changes := ⟨(List.nodup_cons.1 hnodup).2, fun b hb => hstations b (List.mem_cons_of_mem _ hb)⟩ }
  | moved hmove hreplaces => exact hr.replaces hreplaces (hmove.sound (hr.sound _)) (hmove.heldOnlyAt hr)

theorem Roster.Edit.healthLawful (h : r.Edit r') (hr : r.HealthLawful) : r'.HealthLawful := by
  cases h with
  | same => exact hr
  | popped hpop => exact { hr with }
  | moved hmove hreplaces => exact hr.replaces hreplaces (hmove.healthy hr)

/-- An edit leaves each JOINING entry as it is, and makes none. -/
theorem Roster.Edit.joining (h : r.Edit r') (b : Nat) :
    r'.entry b = r.entry b ∨ (r.entry b).state ≠ .joining ∧ (r'.entry b).state ≠ .joining := by
  cases h with
  | same => exact .inl rfl
  | popped hpop => exact .inl rfl
  | moved hmove hreplaces =>
    rw [hreplaces.entry_eq]
    split
    · next hb => rw [hb]; exact .inr hmove.not_joining
    · exact .inl rfl

/-- The outcome of an attempt is an edit (R25 to R31). -/
theorem Roster.deliver_edit (r : Roster) (release : Bool) (o : LineOutcome) (a : Nat) (cycle : Word) :
    r.Edit (r.deliver release o a cycle) := by
  by_cases hfrees : release = true ∧ (r.entry a).freedBy o
  · obtain ⟨rfl, hfreed⟩ := hfrees
    have hst : (r.entry a).state = .active ∨ (r.entry a).state = .suspect ∨ (r.entry a).state = .lost := by
      rcases hfreed with ⟨-, h | h⟩ | ⟨-, h⟩ <;> simp [h]
    rw [Roster.deliver_frees hfreed]
    exact .moved (.released hst) (Roster.change_replaces (r.station_of_entry (StationState.inUse_ne hst).1) _)
  · by_cases hst : (r.entry a).state = .active ∨ (r.entry a).state = .suspect
    · have ha : stationAddress a = true := r.station_of_entry (StationState.issuable_ne hst).1
      cases hc : o.classify with
      | success =>
        have hnot : (release && o == .ok) = false := Bool.eq_false_iff.2 fun h => by
          obtain ⟨hrelease, hok⟩ := Bool.and_eq_true_iff.1 h
          exact hfrees ⟨hrelease, .inl ⟨by simpa using hok, hst⟩⟩
        rw [Roster.deliver_success hst hc hnot]
        exact .moved (.succeeded hst o cycle) (.of_ite ha (Roster.success_becomes ha o cycle))
      | failure =>
        rw [Roster.deliver_failure hst hc]
        exact .moved (.failed hst o) (.of_ite ha (Roster.failure_becomes ha o))
      | neutral =>
        have hnot : (release && o == .ok) = false := by cases o <;> simp [LineOutcome.classify] at hc ⊢
        have hsame : r.deliver release o a cycle = r := by
          unfold Roster.deliver
          rcases hst with h | h <;> simp only [h, hnot, hc] <;> rfl
        rw [hsame]
        exact .same
    · rw [Roster.deliver_unchanged hfrees (.inr (not_or.1 hst))]
      exact .same

/-! ### Admission, settlement, reversion (R32 to R34) -/

/-- An entry admitted: its state recorded as the prior one (R32). -/
def StationEntry.admitted (e : StationEntry) (i : Ident) : StationEntry :=
  { e with state := .joining, prior := e.state, identity := i }

/-- What an admission claim that is answered with an address does: the entry is the holder of the identity, or FREE where nothing
holds it (R32). -/
theorem Roster.admission_replaces {i : Ident} (hi : i ≠ 0) (h : (r.admission i).1 = some a) :
    r.Replaces (r.admission i).2 a ((r.entry a).admitted i) ∧
      ((r.entry a).state ≠ .free ∧ (r.entry a).identity = i ∨ (r.entry a).state = .free ∧ r.heldOnlyAt i a) := by
  cases hl : r.lookup i with
  | some b =>
    rw [Roster.admission_known hl] at h ⊢
    obtain rfl : b = a := Option.some.inj h
    obtain ⟨-, hb, hstate, rfl⟩ := r.lookup_some hl
    exact ⟨Roster.change_replaces hb _, .inl ⟨hstate, rfl⟩⟩
  | none =>
    cases hf : r.lowestFree with
    | some b =>
      rw [Roster.admission_new hl hf] at h ⊢
      obtain rfl : b = a := Option.some.inj h
      obtain ⟨hb, hfree⟩ := r.lowestFree_some hf
      have hreplaces := Roster.change_replaces (r := r) hb ((r.entry b).admitted i)
      simp only [StationEntry.admitted, hfree] at hreplaces ⊢
      exact ⟨hreplaces, .inr ⟨trivial, fun c _ => (r.lookup_none hi).1 hl c⟩⟩
    | none =>
      rw [Roster.admission_full hl hf] at h
      cases h

theorem Roster.Lawful.admission {i : Ident} (h : r.Lawful) (hi : i ≠ 0) (ha : (r.admission i).1 = some a) :
    (r.admission i).2.Lawful := by
  obtain ⟨hreplaces, hholder⟩ := Roster.admission_replaces hi ha
  refine h.replaces hreplaces ⟨h.ranges a, ⟨fun hf => (by cases hf), fun _ => hi⟩, fun hr => ?_⟩ fun _ => ?_
  · rcases hr with hr | ⟨-, hr⟩
    · cases hr
    · exact h.reserved a (.inl hr)
  · rcases hholder with ⟨hne, hid⟩ | ⟨-, hheld⟩
    · rw [← hid]; exact h.heldOnlyAt hne
    · exact hheld

theorem Roster.HealthLawful.admission {i : Ident} (h : r.HealthLawful) (hi : i ≠ 0) (ha : (r.admission i).1 = some a) :
    (r.admission i).2.HealthLawful := by
  obtain ⟨hreplaces, -⟩ := Roster.admission_replaces hi ha
  exact h.replaces hreplaces ⟨⟨fun hst => (by cases hst), fun hst => (by cases hst)⟩, fun _ => h.counts a⟩

/-- A JOINING entry leaves JOINING: settled, or back in the state before (R33, R34). -/
inductive Roster.Rejoined (r : Roster) (a : Nat) : Roster → Prop
  | none (h : (r.entry a).state ≠ .joining) : r.Rejoined a r
  | settled {r' : Roster} (h : (r.entry a).state = .joining) (clean : Bool) (cycle : Word)
      (hreplaces : r.Replaces r' a ((r.entry a).settled clean cycle)) : r.Rejoined a r'
  | reverted {r' : Roster} (h : (r.entry a).state = .joining) (hreplaces : r.Replaces r' a (r.entry a).reverted) :
      r.Rejoined a r'

theorem Roster.settle_rejoined (r : Roster) (a : Nat) (clean : Bool) (cycle : Word) :
    r.Rejoined a (r.settle a clean cycle).2 := by
  unfold Roster.settle
  dsimp only
  split
  · next h => exact .settled h clean cycle (Roster.change_replaces (Roster.station_of_state h (by decide)) _)
  · next h => exact .none h

theorem Roster.revert_rejoined (r : Roster) (a : Nat) : r.Rejoined a (r.revert a) := by
  unfold Roster.revert
  split
  · next h => exact .reverted h (Roster.change_replaces (Roster.station_of_state h (by decide)) _)
  · next h => exact .none h

theorem StationEntry.settled_sound (h : e.Sound) (hj : e.state = .joining) (clean : Bool) (cycle : Word) :
    (e.settled clean cycle).Sound := by
  obtain ⟨hfailures, herrors, hrejoins⟩ := h.range
  refine h.inUse (by simp [hj]) (.inl rfl) rfl ⟨Nat.zero_le _, ?_, ?_⟩
  · simp only [StationEntry.settled]
    split <;> omega
  · simp only [StationEntry.settled]
    split
    · omega
    · exact satSucc_le _ _

theorem StationEntry.reverted_sound (h : e.Sound) (hj : e.state = .joining) : e.reverted.Sound := by
  unfold StationEntry.reverted
  split
  · exact ⟨StationEntry.inRange_free, StationEntry.identified_free, fun h => absurd h (by decide)⟩
  · next hprior =>
    refine ⟨h.range, ⟨fun hf => absurd hf hprior, fun _ => h.identified.2 (by simp [hj])⟩, fun hr => ?_⟩
    rcases hr with hr | ⟨-, hr⟩ <;> exact h.reserved (.inr ⟨hj, hr⟩)

theorem Roster.Rejoined.lawful (h : r.Rejoined a r') (hr : r.Lawful) : r'.Lawful := by
  have hne : (r.entry a).state = .joining → (r.entry a).state ≠ .free := fun hj => by simp [hj]
  cases h with
  | none _ => exact hr
  | settled hj clean cycle hreplaces =>
    exact hr.replaces hreplaces (StationEntry.settled_sound (hr.sound a) hj clean cycle) fun _ => hr.heldOnlyAt (hne hj)
  | reverted hj hreplaces =>
    refine hr.replaces hreplaces (StationEntry.reverted_sound (hr.sound a) hj) fun hst => ?_
    have hid : (r.entry a).reverted.identity = (r.entry a).identity := by
      unfold StationEntry.reverted at hst ⊢
      split
      · next hprior => rw [if_pos hprior] at hst; exact absurd rfl hst
      · rfl
    rw [hid]
    exact hr.heldOnlyAt (hne hj)

/-- A reverted entry is what it was before JOINING, so its count agrees (R27, R34). -/
theorem Roster.HealthLawful.reverted_healthy (h : r.HealthLawful) (hj : (r.entry a).state = .joining)
    (hprior : (r.entry a).prior ≠ .joining) : r.Healthy (r.entry a).reverted := by
  unfold StationEntry.reverted
  split
  · exact Roster.healthy_of_state (.inl rfl)
  · exact ⟨h.joining a hj, fun hst => absurd hst hprior⟩

theorem Roster.Rejoined.healthLawful (h : r.Rejoined a r') (hr : r.HealthLawful)
    (hprior : (r.entry a).state = .joining → (r.entry a).prior ≠ .joining) : r'.HealthLawful := by
  cases h with
  | none _ => exact hr
  | settled hj clean cycle hreplaces => exact hr.replaces hreplaces (Roster.healthy_active hr.thresholds.1 rfl rfl)
  | reverted hj hreplaces => exact hr.replaces hreplaces (hr.reverted_healthy hj (hprior hj))

/-- Once the entry has left JOINING it is not JOINING, and the other entries are as they were. -/
theorem Roster.Rejoined.entry (h : r.Rejoined a r')
    (hprior : (r.entry a).state = .joining → (r.entry a).prior ≠ .joining) :
    (r'.entry a).state ≠ .joining ∧ ∀ b, b ≠ a → r'.entry b = r.entry b := by
  cases h with
  | none h => exact ⟨h, fun _ _ => rfl⟩
  | settled hj clean cycle hreplaces =>
    refine ⟨?_, fun b hb => by rw [hreplaces.entry_eq, if_neg hb]⟩
    rw [hreplaces.entry_eq, if_pos rfl]
    simp [StationEntry.settled]
  | reverted hj hreplaces =>
    refine ⟨?_, fun b hb => by rw [hreplaces.entry_eq, if_neg hb]⟩
    rw [hreplaces.entry_eq, if_pos rfl]
    unfold StationEntry.reverted
    split
    · simp
    · exact hprior hj

/-! ### THRESH_LOAD (R35) -/

/-- Thresholds in the ranges of R35. -/
structure ThresholdsValid (suspectAt lostAt discRetries : Nat) : Prop where
  suspect : 1 ≤ suspectAt
  order   : suspectAt ≤ lostAt
  lost    : lostAt ≤ 15
  retries : 1 ≤ discRetries ∧ discRetries ≤ 7

section
variable {x y z : Nat} {rank : Nat → Nat}

theorem StationEntry.rethresholded_sound (h : e.Sound) : e.rethresholded.Sound := by
  rw [StationEntry.rethresholded_eq]
  split
  · next hst =>
    exact h.inUse (StationState.issuable_ne hst).1 (.inl rfl) rfl ⟨Nat.zero_le _, h.range.2⟩
  · exact h

/-- A load changes no identity, and no entry becomes FREE or JOINING or leaves these states. -/
theorem StationEntry.rethresholded_keeps (e : StationEntry) : e.rethresholded.identity = e.identity ∧
    (e.rethresholded.state = .free ↔ e.state = .free) ∧ (e.rethresholded.state = .joining ↔ e.state = .joining) := by
  unfold StationEntry.rethresholded
  cases hst : e.state <;> simp [hst]

theorem Roster.Lawful.loadThresholds (h : r.Lawful) (hv : ThresholdsValid x y z) :
    (r.loadThresholds x y z rank).Lawful := by
  have hentry := r.loadThresholds_entry x y z rank
  have hsound : ∀ b, ((r.loadThresholds x y z rank).entry b).Sound := fun b => by
    rw [hentry]; exact StationEntry.rethresholded_sound (h.sound b)
  refine ⟨fun b => (hsound b).range, fun b => (hsound b).identified, fun b => (hsound b).reserved, fun b c hb hc hbc => ?_,
    ?_, ?_⟩
  · rw [hentry] at hb hbc
    rw [hentry] at hc hbc
    obtain ⟨hidb, hfreeb, -⟩ := (r.entry b).rethresholded_keeps
    obtain ⟨hidc, hfreec, -⟩ := (r.entry c).rethresholded_keeps
    exact h.distinct b c (fun hf => hb (hfreeb.2 hf)) (fun hf => hc (hfreec.2 hf)) (by rw [← hidb, ← hidc, hbc])
  · rw [r.loadThresholds_changes]
    refine ⟨List.Nodup.append h.changes.1 ((r.suspects_nodup rank).filter _) ?_, fun b hb => ?_⟩
    · intro b hb hb'
      simp [hb] at hb'
    · rcases List.mem_append.1 hb with hb | hb
      · exact h.changes.2 b hb
      · have hst := (r.mem_suspects rank b).1 (List.mem_filter.1 hb).1
        exact Roster.station_of_state hst (by decide)
  · obtain ⟨hx, hy, hz⟩ := r.loadThresholds_thresholds x y z rank
    rw [hx, hy, hz]
    exact ⟨hv.suspect, hv.order, hv.lost, hv.retries⟩

/-- A load leaves ACTIVE entries with count 0 and none SUSPECT, so the counts agree where nothing is JOINING. -/
theorem Roster.loadThresholds_healthLawful (hj : ∀ b, (r.entry b).state ≠ .joining) (hv : ThresholdsValid x y z) :
    (r.loadThresholds x y z rank).HealthLawful := by
  obtain ⟨hx, hy, -⟩ := r.loadThresholds_thresholds x y z rank
  refine ⟨by rw [hx, hy]; exact ⟨hv.suspect, hv.order, hv.lost⟩, fun b => ?_, fun b hb => ?_⟩
  · rw [r.loadThresholds_entry, StationEntry.rethresholded_eq]
    split
    · exact ⟨fun _ => by rw [hx]; exact hv.suspect, fun hst => (by cases hst)⟩
    · next hst =>
      rw [not_or] at hst
      exact ⟨fun h => absurd h hst.1, fun h => absurd h hst.2⟩
  · rw [r.loadThresholds_entry] at hb
    exact absurd ((r.entry b).rethresholded_keeps.2.2.1 hb) (hj b)

end

end Sys2Proof.Machine
end

section
/-! PROOFS. What a step can do to the station table, the address a round waits for, and the record in flight, and the laws that
follow (R27, R32, R77, R78, R87). -/

namespace Sys2Proof.Machine

open Sys2Proof

/-! ### The parts of the state that the laws of JOINING speak of -/

/-- The station table, the address whose ASSIGN the unit waits for, and the record in flight. -/
structure RoundView where
  roster  : Roster
  joining : Option Nat
  record  : Option Record

/-- What the laws of JOINING see of a state. -/
def State.view (s : State) : RoundView := { roster := s.roster, joining := s.disc.joining, record := s.line.record }

/-- The laws of JOINING and of health, of the view. -/
structure RoundView.Lawful (v : RoundView) : Prop where
  joining  : ∀ a, (v.roster.entry a).state = .joining ↔ v.joining = some a
  exchange : ∀ a, v.joining = some a → ∃ r, v.record = some r ∧ r.assigning a
  prior    : ∀ a, (v.roster.entry a).state = .joining → (v.roster.entry a).prior ≠ .joining
  parts    : ∀ r, v.record = some r → r.part ≠ .single → r.owner = .discovery
  health   : v.roster.HealthLawful

theorem State.view_lawful_iff {s : State} : s.view.Lawful ↔ s.JoiningLawful ∧ s.roster.HealthLawful :=
  ⟨fun h => ⟨⟨h.joining, h.exchange, h.prior, h.parts⟩, h.health⟩,
    fun ⟨hj, hh⟩ => ⟨hj.joining, hj.exchange, hj.prior, hj.parts, hh⟩⟩

/-- No ASSIGN exchange is in flight. -/
def RoundView.NoAssign (v : RoundView) : Prop := ∀ r, v.record = some r → ∀ a, ¬ r.assigning a

/-- A record that may follow: outside a round it has a single frame, in one it is the unit's, or it continues the one in flight. -/
def RoundView.Continues (v : RoundView) (next : Record) : Prop :=
  next.part = .single ∨ next.owner = .discovery ∨
    ∃ r, v.record = some r ∧ next.owner = r.owner ∧ next.part = r.part

/-- The table as the unit waits for no ASSIGN any longer: as it was where none was in flight, with the entry out of JOINING
otherwise. -/
inductive RoundView.Leaves (v : RoundView) : Roster → Prop
  | idle (h : v.NoAssign ∨ v.joining = none) : v.Leaves v.roster
  | rejoined {a : Nat} {roster : Roster} (ha : ∀ b, v.joining = some b → b = a) (h : v.roster.Rejoined a roster) :
      v.Leaves roster

/-- What one step can do; `off`: the run state is OFF. -/
inductive RoundView.Move (off : Prop) (v : RoundView) : RoundView → Prop
  /-- The unit's wait stays as it is, and an ASSIGN in flight stays in flight. -/
  | stays {roster : Roster} {next : Option Record} (hroster : v.roster.Edit roster)
      (hnext : ∀ r', next = some r' → v.Continues r')
      (hassign : ∀ r a, v.record = some r → r.assigning a → ∃ r', next = some r' ∧ r'.assigning a) :
      Move off v ⟨roster, v.joining, next⟩
  /-- The slots are over and an identity is admitted (R32, R90). -/
  | admits {i : Ident} {a : Nat} {r r' : Record} (hrecord : v.record = some r) (hpart : r.part ≠ .single)
      (hidle : v.NoAssign) (hi : i ≠ 0) (ha : (v.roster.admission i).1 = some a)
      (hassign : r.owner = .discovery → r'.assigning a) :
      Move off v ⟨(v.roster.admission i).2, some a, some r'⟩
  /-- The unit waits for no ASSIGN any longer (R92 to R95, R100, R101). -/
  | leaves {roster : Roster} {next : Option Record} (hroster : v.Leaves roster)
      (hnext : ∀ r', next = some r' → v.Continues r') : Move off v ⟨roster, none, next⟩
  /-- THRESH_LOAD, in OFF alone (R35). -/
  | loads {x y z : Nat} {rank : Nat → Nat} (hoff : off) (hv : ThresholdsValid x y z) :
      Move off v ⟨v.roster.loadThresholds x y z rank, v.joining, v.record⟩
  /-- A reset (R151, R152). -/
  | resets : Move off v ⟨{}, none, none⟩

variable {off : Prop} {v w : RoundView}

/-! ### The laws that a move keeps -/

theorem RoundView.Move.roster_lawful (h : v.Move off w) (hv : v.roster.Lawful) : w.roster.Lawful := by
  cases h with
  | stays hroster _ _ => exact hroster.lawful hv
  | admits _ _ _ hi ha _ => exact hv.admission hi ha
  | leaves hroster _ =>
    cases hroster with
    | idle _ => exact hv
    | rejoined _ h => exact h.lawful hv
  | loads _ hvalid => exact hv.loadThresholds hvalid
  | resets => exact Roster.lawful_reset

/-- A record that follows a lawful one keeps the parts of a round with rounds (R77, R78). -/
theorem RoundView.Continues.parts {r : Record} (h : v.Continues r) (hv : v.Lawful) (hpart : r.part ≠ .single) :
    r.owner = .discovery := by
  rcases h with h | h | ⟨r₀, hr₀, howner, hsame⟩
  · exact absurd h hpart
  · exact h
  · rw [howner]
    exact hv.parts r₀ hr₀ (hsame ▸ hpart)

/-- Where no ASSIGN is in flight no entry is JOINING. -/
theorem RoundView.Lawful.joining_none (hv : v.Lawful) (h : v.NoAssign ∨ v.joining = none) : v.joining = none := by
  rcases h with h | h
  · cases hj : v.joining with
    | none => rfl
    | some a =>
      obtain ⟨r, hr, hassign⟩ := hv.exchange a hj
      exact absurd hassign (h r hr a)
  · exact h

theorem RoundView.Lawful.not_joining (hv : v.Lawful) (h : v.joining = none) (a : Nat) :
    (v.roster.entry a).state ≠ .joining := fun hst => by
  rw [(hv.joining a).1 hst] at h
  cases h

/-- Once nothing is JOINING, the laws hold of any record that may follow. -/
theorem RoundView.Lawful.of_none {roster : Roster} {next : Option Record} (hv : v.Lawful)
    (hnone : ∀ a, (roster.entry a).state ≠ .joining) (hnext : ∀ r', next = some r' → v.Continues r')
    (hhealth : roster.HealthLawful) : RoundView.Lawful ⟨roster, none, next⟩ where
  joining a := ⟨fun h => absurd h (hnone a), fun h => (by cases h)⟩
  exchange a h := by cases h
  prior a h := absurd h (hnone a)
  parts r hr hpart := (hnext r hr).parts hv hpart
  health := hhealth

theorem RoundView.Leaves.none_joining {roster : Roster} (h : v.Leaves roster) (hv : v.Lawful) (b : Nat) :
    (roster.entry b).state ≠ .joining := by
  cases h with
  | idle h => exact hv.not_joining (hv.joining_none h) b
  | @rejoined a _ ha h =>
    obtain ⟨hself, hothers⟩ := h.entry (hv.prior a)
    by_cases hb : b = a
    · rw [hb]; exact hself
    · rw [hothers b hb]
      exact fun hst => hb (ha b ((hv.joining b).1 hst))

theorem RoundView.Leaves.healthLawful {roster : Roster} (h : v.Leaves roster) (hv : v.Lawful) :
    roster.HealthLawful := by
  cases h with
  | idle _ => exact hv.health
  | rejoined _ h => exact h.healthLawful hv.health (hv.prior _)

/-- The admission of an identity while nothing is JOINING: its entry alone is JOINING then (R32). -/
theorem RoundView.Lawful.admits {i : Ident} {a : Nat} {r' : Record} (hv : v.Lawful) (hnone : v.joining = none) (hi : i ≠ 0)
    (ha : (v.roster.admission i).1 = some a) (hassign : r'.assigning a) :
    RoundView.Lawful ⟨(v.roster.admission i).2, some a, some r'⟩ := by
  obtain ⟨hreplaces, -⟩ := Roster.admission_replaces hi ha
  have hentry := hreplaces.entry_eq
  refine ⟨fun b => ?_, fun b hb => ⟨r', rfl, by rwa [← Option.some.inj hb]⟩, fun b hb => ?_, fun r hr _ => ?_,
    hv.health.admission hi ha⟩
  · show ((v.roster.admission i).2.entry b).state = .joining ↔ some a = some b
    rw [hentry]
    split
    · next hba => simp [hba, StationEntry.admitted]
    · next hba => simp [hv.not_joining hnone b, Ne.symm hba]
  · change ((v.roster.admission i).2.entry b).state = .joining at hb
    show ((v.roster.admission i).2.entry b).prior ≠ .joining
    rw [hentry] at hb ⊢
    split
    · exact hv.not_joining hnone a
    · next hba =>
      rw [if_neg hba] at hb
      exact absurd hb (hv.not_joining hnone b)
  · rw [← Option.some.inj hr]
    exact hassign.1

theorem RoundView.Move.lawful (h : v.Move off w) (hv : v.Lawful) (hoff : off → v.record = none) : w.Lawful := by
  cases h with
  | @stays roster next hroster hnext hassign =>
    have hsame : ∀ a, (roster.entry a).state = .joining → roster.entry a = v.roster.entry a := fun a h =>
      (hroster.joining a).resolve_right fun hne => hne.2 h
    refine ⟨fun a => ?_, fun a ha => ?_, fun a ha => ?_, fun r hr hpart => (hnext r hr).parts hv hpart,
      hroster.healthLawful hv.health⟩
    · rw [← hv.joining a]
      rcases hroster.joining a with heq | ⟨h, h'⟩
      · exact iff_of_eq (by rw [show roster.entry a = _ from heq])
      · exact iff_of_false h' h
    · obtain ⟨r, hr, hr'⟩ := hv.exchange a ha
      exact hassign r a hr hr'
    · have heq := hsame a ha
      change (roster.entry a).state = .joining at ha
      show (roster.entry a).prior ≠ .joining
      rw [heq] at ha ⊢
      exact hv.prior a ha
  | admits hrecord hpart hidle hi ha hassign =>
    exact hv.admits (hv.joining_none (.inl hidle)) hi ha (hassign (hv.parts _ hrecord hpart))
  | leaves hroster hnext => exact hv.of_none (hroster.none_joining hv) hnext (hroster.healthLawful hv)
  | loads h hvalid =>
    have hnone := hv.joining_none (.inl fun r hr => by rw [hoff h] at hr; cases hr)
    rw [hnone, hoff h]
    refine hv.of_none (fun a hst => ?_) (fun r hr => by cases hr)
      (Roster.loadThresholds_healthLawful (hv.not_joining hnone) hvalid)
    rw [Roster.loadThresholds_entry] at hst
    exact hv.not_joining hnone a ((v.roster.entry a).rethresholded_keeps.2.2.1 hst)
  | resets =>
    exact hv.of_none (fun a => by rw [Roster.entry_reset]; decide) (fun r hr => by cases hr) Roster.healthLawful_reset

end Sys2Proof.Machine
end

section
/-! PROOFS. The operations that leave the station table, the unit's wait for an ASSIGN and the record in flight as they are. -/

namespace Sys2Proof.Machine

open Sys2Proof

variable (s : State)

/-- An operation within the engine and the unit that leaves the unit's wait alone leaves the view. -/
theorem State.EngineFrame.view_eq {s t : State} (h : s.EngineFrame t) (hj : t.disc.joining = s.disc.joining) :
    t.view = s.view := by
  have hroster : t.roster = s.roster := by rw [h]
  have hrecord : t.line.record = s.line.record := by rw [h]
  simp only [State.view, hroster, hrecord, hj]

/-! ### The Discovery Unit -/

theorem State.endSweep_view (sw : Sweep) (o : LineOutcome) : (s.endSweep sw o).view = { s.view with joining := none } := rfl

theorem State.placeRound_view (sw : Sweep) : (s.placeRound sw).view = { s.view with joining := none } := by
  unfold State.placeRound
  split <;> rfl

@[simp] theorem State.endSweeping_view (o : LineOutcome) : (s.endSweeping o).view = s.view := by
  unfold State.endSweeping
  split
  · next sw h => rw [State.endSweep_view]; simp [State.view, h, Discovery.joining]
  · rfl
  · rfl

@[simp] theorem State.discCycleStart_view (applied : Bool) : (s.discCycleStart applied).view = s.view := by
  unfold State.discCycleStart
  split
  · next sw h =>
    split
    · rw [State.placeRound_view]; simp [State.view, h, Discovery.joining]
    · rfl
  · rfl
  · rfl

@[simp] theorem State.discGranted_view : s.discGranted.view = s.view := by
  unfold State.discGranted
  split
  · next sw h => simp [State.view, h, Discovery.joining]
  · rfl
  · rfl

@[simp] theorem State.discFaultSeen_view : s.discFaultSeen.view = s.view := by
  unfold State.discFaultSeen
  split
  · next sw rd h => simp [State.view, h, Discovery.joining]
  · rfl
  · rfl

@[simp] theorem State.cancelSweep_view : s.cancelSweep.view = s.view := by
  unfold State.cancelSweep
  split
  · next sw h => rw [State.endSweep_view]; simp [State.view, h, Discovery.joining]
  · next sw rd h => simp [State.view, h, Discovery.joining]
  · rfl

/-- The end of a round leaves the unit IDLE or SWEEPING. -/
theorem State.discRoundEnd_view : s.discRoundEnd.view = { s.view with joining := none } := by
  unfold State.discRoundEnd
  split
  · split
    · exact s.endSweep_view _ _
    · exact s.placeRound_view _
  · next h => simp [State.view, h, Discovery.joining]
  · next h => simp [State.view, h, Discovery.joining]

/-! ### The Request Engine -/

@[simp] theorem State.completeHead_view (o : LineOutcome) (n : Nat) (reply : Reply) :
    (s.completeHead o n reply).view = s.view := by
  unfold State.completeHead
  split <;> rfl

/-- A DISCOVER is taken up by an IDLE unit alone (R84, R137). -/
theorem State.joining_none_of_sweep {s : State} {q : Request} (h : s.headCourse q = .sweep) : s.disc.joining = none := by
  cases hd : s.disc with
  | idle | sweeping sw => rfl
  | inRound sw rd =>
    unfold State.headCourse at h
    repeat' split at h
    all_goals simp [hd, Discovery.active] at *

theorem State.takeUpFuel_view (n : Nat) (s : State) : (s.takeUpFuel n).view = s.view := by
  induction n generalizing s with
  | zero => rfl
  | succ n ih =>
    unfold State.takeUpFuel
    split
    · rfl
    · next q rest hq =>
      split
      · dsimp only
        split
        · rw [ih, State.completeHead_view]; rfl
        · next hcourse =>
          have hnone := State.joining_none_of_sweep hcourse
          rw [ih, State.acceptSweep, State.placeRound_view]
          simp only [State.view, State.setQueue_roster, State.setQueue_line, State.setReservations_roster,
            State.setReservations_line, State.setReservations_disc] at hnone ⊢
          rw [hnone]
        · rfl
      · rfl

@[simp] theorem State.takeUp_view : s.takeUp.view = s.view := s.takeUpFuel_view _

@[simp] theorem State.finishHead_view (o : LineOutcome) (n : Nat) (reply : Reply) :
    (s.finishHead o n reply).view = s.view := by
  rw [State.finishHead, State.takeUp_view, State.completeHead_view]
  rfl

@[simp] theorem State.reqOutcome_view (o : LineOutcome) (n : Nat) (reply : Reply) :
    (s.reqOutcome o n reply).view = s.view := by
  unfold State.reqOutcome
  split
  · rfl
  · split
    · rfl
    · exact s.finishHead_view o n reply

@[simp] theorem State.reqWindowOpens_view : s.reqWindowOpens.view = s.view := by
  unfold State.reqWindowOpens
  split
  · rfl
  · split
    · split
      · exact s.finishHead_view _ _ _
      · split
        · exact s.finishHead_view _ _ _
        · rfl
    · split
      · exact s.finishHead_view _ _ _
      · rfl
    · rfl
    · rfl

@[simp] theorem State.reqLeave_view : s.reqLeave.view = s.view := by
  unfold State.reqLeave
  split
  · rfl
  · exact s.finishHead_view _ _ _
  · rfl
  · rfl

@[simp] theorem State.submit_view : s.submit.view = s.view := by
  unfold State.submit
  dsimp only
  split
  · rfl
  · split
    · rw [State.takeUp_view]; rfl
    · rfl

@[simp] theorem State.cancelHead_view : s.cancelHead.view = s.view := by
  unfold State.cancelHead
  split
  · rw [State.takeUp_view]; rfl
  · rw [State.takeUp_view]; rfl
  · rfl
  · rfl

@[simp] theorem State.cancel_view : s.cancel.view = s.view := by
  unfold State.cancel
  dsimp only
  split
  · rfl
  · split
    · exact s.cancelHead_view
    · rfl
    · split
      · exact s.cancelSweep_view
      · rfl

@[simp] theorem State.popCompletion_view : s.popCompletion.view = s.view := by
  unfold State.popCompletion
  split
  · rfl
  · rw [State.takeUp_view]; rfl

/-! ### The Poll Scheduler -/

@[simp] theorem State.choose_view : s.choose.view = s.view := by
  simp [State.view]

@[simp] theorem State.chooseAtBoundary_view : s.chooseAtBoundary.view = s.view := by
  unfold State.chooseAtBoundary
  split
  · exact s.choose_view
  · rfl

@[simp] theorem State.boundaryChoice_view : s.boundaryChoice.view = s.view := by
  rw [State.boundaryChoice_frame]
  rfl

@[simp] theorem State.schedOutcome_view (n : Nat) (o : LineOutcome) (reply : Reply) :
    (s.schedOutcome n o reply).view = s.view := by
  rw [State.schedOutcome_frame]
  rfl

@[simp] theorem State.schedCycleStart_view : s.schedCycleStart.view = s.view := by
  rw [State.schedCycleStart_frame]
  rfl

@[simp] theorem State.schedLeave_view : s.schedLeave.view = s.view := rfl
@[simp] theorem State.schedWithdraw_view : s.schedWithdraw.view = s.view := rfl

@[simp] theorem State.schedSet_view : s.schedSet.view = s.view := by
  unfold State.schedSet
  dsimp only
  split
  · rfl
  · split <;> rfl

@[simp] theorem State.schedEnable_view : s.schedEnable.view = s.view := by
  unfold State.schedEnable
  dsimp only
  split
  · rfl
  · split <;> rfl

@[simp] theorem State.schedDisable_view : s.schedDisable.view = s.view := by
  unfold State.schedDisable
  dsimp only
  split
  · rfl
  · split
    case h_5 =>
      split
      · exact State.choose_view _
      · rfl
    case h_6 =>
      split
      · rfl
      · exact State.choose_view _
    all_goals rfl

@[simp] theorem State.schedSnap_view : s.schedSnap.view = s.view := by
  unfold State.schedSnap
  dsimp only
  split <;> rfl

@[simp] theorem State.take_view : s.take.view = s.view := by
  unfold State.take
  dsimp only
  repeat' split
  all_goals rfl

@[simp] theorem State.put_view : s.put.view = s.view := by
  unfold State.put
  dsimp only
  repeat' split
  all_goals rfl

/-! ### Changes of run state and the cycle start -/

@[simp] theorem State.enterOff_view : s.enterOff.view = s.view := rfl
@[simp] theorem State.enterDraining_view : s.enterDraining.view = s.view := rfl

@[simp] theorem State.ownersLeave_view (o : LineOutcome) : (s.ownersLeave o).view = s.view := by
  unfold State.ownersLeave State.engineAndUnit
  split
  · split
    · rw [State.endSweeping_view, State.reqLeave_view]; rfl
    · rw [State.reqLeave_view, State.endSweeping_view]; rfl
  · rw [State.endSweeping_view, State.reqLeave_view]

@[simp] theorem State.enterFaulted_view : s.enterFaulted.view = s.view := by
  rw [State.enterFaulted, State.discFaultSeen_view, State.ownersLeave_view]
  rfl

@[simp] theorem State.cycleStart_view : s.cycleStart.view = s.view := by
  rw [State.cycleStart, State.discCycleStart_view, State.schedCycleStart_view]
  split <;> rfl

@[simp] theorem State.enterRunning_view : s.enterRunning.view = s.view := by
  rw [State.enterRunning, State.takeUp_view]
  exact (State.cycleStart_view _).trans rfl

/-! ### The Line Sequencer -/

@[simp] theorem State.echoError_view : s.echoError.view = s.view := by
  unfold State.echoError
  dsimp only
  split
  · rw [State.enterFaulted_view]; rfl
  · rfl

@[simp] theorem State.lineFree_view : s.lineFree.view = s.view := by
  unfold State.lineFree
  split
  · rw [State.reqLeave_view]; rfl
  · rfl

@[simp] theorem State.roundClaimSeen_view : s.roundClaimSeen.view = s.view := by
  unfold State.roundClaimSeen
  split
  · split <;> rfl
  · rfl

/-! ### Run Control and the Cycle Timer -/

@[simp] theorem State.initEnd_view : s.initEnd.view = s.view := by
  unfold State.initEnd
  split <;> rfl

@[simp] theorem State.start_view : s.start.view = s.view := by
  unfold State.start
  split
  · exact s.enterRunning_view
  · rfl

@[simp] theorem State.resume_view : s.resume.view = s.view := by
  unfold State.resume
  split <;> rfl

@[simp] theorem State.lineCheckStuck_view : s.lineCheckStuck.view = s.view := by
  unfold State.lineCheckStuck
  split <;> rfl

@[simp] theorem State.lineCheckClear_view : s.lineCheckClear.view = s.view := by
  unfold State.lineCheckClear
  split
  · rw [State.enterRunning_view]; rfl
  · rfl

@[simp] theorem State.timingLoad_view : s.timingLoad.view = s.view := by
  unfold State.timingLoad
  dsimp only
  split <;> rfl

@[simp] theorem State.openExpiry_view : s.openExpiry.view = s.view := by
  unfold State.openExpiry
  split
  · exact s.cycleStart_view
  · rfl

@[simp] theorem State.schedExpiry_view : s.schedExpiry.view = s.view := by
  unfold State.schedExpiry
  split
  · rw [State.reqWindowOpens_view]; rfl
  · rfl

/-! ### The Host Port and the snapshots -/

@[simp] theorem State.stationSnap_view : s.stationSnap.view = s.view := by
  unfold State.stationSnap
  dsimp only
  split <;> rfl

theorem State.busWrite_view {store : State → State} (h : (store s).view = s.view) : (s.busWrite store).view = s.view := by
  unfold State.busWrite
  split
  · rfl
  · exact h

@[simp] theorem State.winSelWrite_view (v : Word) : (s.winSelWrite v).view = s.view := s.busWrite_view rfl
@[simp] theorem State.winDataWrite_view (v : Word) : (s.winDataWrite v).view = s.view := s.busWrite_view rfl
@[simp] theorem State.eventWrite_view (v : Word) : (s.eventWrite v).view = s.view := s.busWrite_view rfl
@[simp] theorem State.enableWrite_view (v : Word) : (s.enableWrite v).view = s.view := s.busWrite_view rfl

@[simp] theorem State.winIndexWrite_view (v : Word) : (s.winIndexWrite v).view = s.view := by
  refine s.busWrite_view ?_
  split
  · split <;> rfl
  · rfl

@[simp] theorem State.winDataRead_view : s.winDataRead.view = s.view := by
  unfold State.winDataRead
  split <;> rfl

end Sys2Proof.Machine
end

section
/-! PROOFS. What the events of the line do to the station table, the unit's wait for an ASSIGN and the record in flight (R63 to R80,
R87 to R95, R100, R101). -/

namespace Sys2Proof.Machine

open Sys2Proof

variable {off : Prop} {v w : RoundView} {s : State} {r r' : Record}

/-! ### The view under the operations on the state -/

@[simp] theorem State.setRecord_view (s : State) (next : Option Record) :
    (s.setRecord next).view = { s.view with record := next } := rfl

@[simp] theorem State.setRoster_view (s : State) (roster : Roster) :
    (s.setRoster roster).view = { s.view with roster := roster } := rfl

@[simp] theorem State.setResult_view (s : State) (c : ResultCode) (n : Nat) : (s.setResult c n).view = s.view := rfl
@[simp] theorem State.nextFree_view (s : State) : s.nextFree.view = s.view := rfl
@[simp] theorem State.setEchoCount_view (s : State) (n : Nat) : (s.setEchoCount n).view = s.view := rfl
@[simp] theorem State.setBoundary_view (s : State) (b : Bool) : (s.setBoundary b).view = s.view := rfl

/-! ### Records that are no ASSIGN exchange -/

theorem Record.not_assigning_of_owner (h : r.owner ≠ .discovery) (a : Nat) : ¬ r.assigning a := fun hr => h hr.1

theorem Record.not_assigning_of_part (hslots : r.part ≠ .slots) (hassign : r.part ≠ .assign) (a : Nat) : ¬ r.assigning a := by
  rintro ⟨-, ⟨h, -⟩ | ⟨h, -⟩⟩
  · exact hslots h
  · exact hassign h

theorem Record.not_assigning_of_receiving (hpart : r.part = .slots) (hphase : r.phase = .receiving) (a : Nat) :
    ¬ r.assigning a := by
  rintro ⟨-, ⟨-, h, -⟩ | ⟨h, -⟩⟩
  · rw [hphase] at h; cases h
  · rw [hpart] at h; cases h

theorem Record.not_assigning_of_after (hphase : r.phase = .closing) (hafter : ∀ i b, r.after ≠ .assign i b) (a : Nat) :
    ¬ r.assigning a := by
  rintro ⟨-, ⟨-, -, i, h⟩ | ⟨-, h⟩⟩
  · exact hafter i a h
  · exact h hphase

/-- Outside the slots' gap an ASSIGN exchange is the ASSIGN frame's, its gap excepted. -/
theorem Record.assigning.part_of_phase {a : Nat} (h : r.assigning a) (hphase : r.phase ≠ .closing) :
    r.owner = .discovery ∧ r.part = .assign := by
  obtain ⟨howner, ⟨-, h, -⟩ | ⟨h, -⟩⟩ := h
  · exact absurd h hphase
  · exact ⟨howner, h⟩

theorem RoundView.noAssign_of_none (h : v.record = none) : v.NoAssign := fun r hr => by
  rw [h] at hr
  cases hr

theorem RoundView.noAssign_of_some (hr : v.record = some r) (h : ∀ a, ¬ r.assigning a) : v.NoAssign := fun r' hr' => by
  obtain rfl : r = r' := Option.some.inj (hr.symm.trans hr')
  exact h

/-! ### Moves, in the forms the events make -/

theorem RoundView.continues_of_same (hr : v.record = some r) (howner : r'.owner = r.owner) (hpart : r'.part = r.part) :
    v.Continues r' := .inr (.inr ⟨r, hr, howner, hpart⟩)

theorem RoundView.Continues.of_same (h : v.Continues r) (howner : r'.owner = r.owner) (hpart : r'.part = r.part) :
    v.Continues r' := by
  unfold RoundView.Continues at h ⊢
  rwa [howner, hpart]

theorem RoundView.Move.from_eq {v' : RoundView} (h : v' = v) (hmove : v'.Move off w) : v.Move off w := h ▸ hmove

/-- The table edited, and the transaction in flight as it was. -/
theorem RoundView.Move.edits {roster : Roster} (h : v.roster.Edit roster) : v.Move off { v with roster := roster } :=
  .stays h (fun _ hr => RoundView.continues_of_same hr rfl rfl) fun r _ hr hassign => ⟨r, hr, hassign⟩

theorem RoundView.Move.of_eq (h : w = v) : v.Move off w := h ▸ .edits .same

/-- The record in flight moves on. -/
theorem RoundView.Move.advances (hr : v.record = some r) (howner : r'.owner = r.owner) (hpart : r'.part = r.part)
    (hassign : ∀ a, r.assigning a → r'.assigning a) : v.Move off { v with record := some r' } := by
  refine .stays .same (fun r'' h => ?_) fun r'' a h ha => ⟨r', rfl, ?_⟩
  · rw [← Option.some.inj h]
    exact RoundView.continues_of_same hr howner hpart
  · obtain rfl : r = r'' := Option.some.inj (hr.symm.trans h)
    exact hassign a ha

/-- A record, where no ASSIGN exchange was in flight. -/
theorem RoundView.Move.replaced {roster : Roster} {next : Option Record} (hroster : v.roster.Edit roster) (h : v.NoAssign)
    (hnext : ∀ r', next = some r' → v.Continues r') : v.Move off { v with roster := roster, record := next } :=
  .stays hroster hnext fun r a hr hassign => absurd hassign (h r hr a)

theorem RoundView.Move.leaves_some {roster : Roster} (hroster : v.Leaves roster) (h : v.Continues r') :
    v.Move off ⟨roster, none, some r'⟩ := .leaves hroster fun r hr => by rwa [← Option.some.inj hr]

/-! ### Reversion -/

/-- The table with the entry of an ASSIGN in flight reverted (R34). -/
def RoundView.reverted (v : RoundView) : Roster :=
  match v.joining with
  | some a => v.roster.revert a
  | none => v.roster

theorem RoundView.leaves_reverted (v : RoundView) : v.Leaves v.reverted := by
  cases hj : v.joining with
  | none => rw [show v.reverted = v.roster by simp only [RoundView.reverted, hj]]; exact .idle (.inr hj)
  | some a =>
    rw [show v.reverted = v.roster.revert a by simp only [RoundView.reverted, hj]]
    refine .rejoined (a := a) (fun b hb => ?_) (v.roster.revert_rejoined a)
    rw [hj] at hb
    exact (Option.some.inj hb).symm

theorem RoundView.eq_reverted (h : v.joining = none) : v = ⟨v.reverted, none, v.record⟩ := by
  simp only [RoundView.reverted, h]
  exact h ▸ rfl

/-- The unit leaves its round's wait, with the entry it was waiting for reverted. -/
theorem State.revertedRound_view {sw sw' : Sweep} {rd rd' : Round} (hd : s.disc = .inRound sw rd)
    (hphase : rd'.phase = .closing) :
    ((if rd.phase = .assignWait then s.setRoster (s.roster.revert rd.address) else s).setDisc (.inRound sw' rd')).view =
      ⟨s.view.reverted, none, s.view.record⟩ := by
  by_cases hp : rd.phase = .assignWait <;>
    simp [State.view, RoundView.reverted, Discovery.joining, hd, hp, hphase]

/-- An echo error handed to the unit: what it was waiting for is reverted (R101). -/
theorem State.discLineError_view (s : State) : s.discLineError.view = ⟨s.view.reverted, none, s.view.record⟩ := by
  unfold State.discLineError
  split
  · next sw rd hd => exact State.revertedRound_view hd rfl
  · next hd => exact RoundView.eq_reverted (congrArg Discovery.joining hd)
  · next sw hd => exact RoundView.eq_reverted (congrArg Discovery.joining hd)

/-- ABORTED handed to the unit: what it was waiting for is reverted (R100). -/
theorem State.discAborted_view (s : State) : s.discAborted.view = ⟨s.view.reverted, none, s.view.record⟩ := by
  unfold State.discAborted
  split
  · next sw rd hd => exact State.revertedRound_view hd rfl
  · next hd => exact RoundView.eq_reverted (congrArg Discovery.joining hd)
  · next sw hd => exact RoundView.eq_reverted (congrArg Discovery.joining hd)

/-- In every phase but ASSIGN_WAIT the unit waits for no ASSIGN (R87). -/
theorem State.discPhase_view {p : RoundPhase} (hp : p ≠ .assignWait) (s : State) :
    (s.discPhase p).view = { s.view with joining := none } := by
  unfold State.discPhase
  split
  · simp [State.view, Discovery.joining, hp]
  · next h => simp [State.view, Discovery.joining, h]
  · next h => simp [State.view, Discovery.joining, h]

/-- The outcome of the ASSIGN exchange settles or reverts the entry the unit waits for (R92 to R94). -/
theorem State.discAssignOutcome_view (s : State) (o : LineOutcome) :
    ∃ roster, (∀ next, RoundView.Leaves { s.view with record := next } roster) ∧
      (s.discAssignOutcome o).view = ⟨roster, none, s.view.record⟩ := by
  cases hd : s.disc with
  | idle => exact ⟨s.roster, fun _ => .idle (.inr (by simp [State.view, hd, Discovery.joining])),
      by simp [State.discAssignOutcome, State.view, hd, Discovery.joining]⟩
  | sweeping sw => exact ⟨s.roster, fun _ => .idle (.inr (by simp [State.view, hd, Discovery.joining])),
      by simp [State.discAssignOutcome, State.view, hd, Discovery.joining]⟩
  | inRound sw rd =>
    have haddress : ∀ b, s.view.joining = some b → b = rd.address := by
      simp only [State.view, hd, Discovery.joining]
      split <;> simp +contextual
    by_cases ho : o = .timeout
    · refine ⟨_, fun _ => .rejoined haddress (s.roster.revert_rejoined rd.address), ?_⟩
      simp [State.discAssignOutcome, State.view, hd, Discovery.joining, ho]
    · refine ⟨_, fun _ => .rejoined haddress (s.roster.settle_rejoined rd.address (o == .ok || o == .nak) s.timer.cycle), ?_⟩
      simp [State.discAssignOutcome, State.view, hd, Discovery.joining, ho]

/-! ### Frames that fail and frames that are driven (R63, R64, R70, R71, R78) -/

theorem State.failFrame_move (hnext : s.view.Continues r)
    (h : s.view.NoAssign ∨ r.owner = .discovery ∧ r.part ≠ .contend) (offGrid : Bool) :
    s.view.Move off (s.failFrame r offGrid).view := by
  have hclosed : s.view.Continues { r.close (some .lineError) offGrid with after := .finish } := hnext.of_same rfl rfl
  unfold State.failFrame
  dsimp only
  split
  · rw [State.discLineError_view, State.echoError_view]
    exact .leaves_some s.view.leaves_reverted hclosed
  · next hround =>
    rw [State.echoError_view]
    refine .replaced .same (h.resolve_right hround) fun r' hr' => ?_
    rwa [← Option.some.inj hr']

theorem State.driveFrame_move (hnext : s.view.Continues r)
    (h : s.view.NoAssign ∨ r.owner = .discovery ∧ r.part = .assign) : s.view.Move off (s.driveFrame r).view := by
  unfold State.driveFrame
  split
  · refine .stays .same (fun r' hr' => ?_) fun r₀ a hr₀ ha => ⟨_, rfl, ?_⟩
    · rw [← Option.some.inj hr']
      exact hnext.of_same rfl rfl
    · obtain ⟨howner, hpart⟩ := h.resolve_left fun hno => hno r₀ hr₀ a ha
      exact ⟨howner, .inr ⟨hpart, fun hphase => by cases hphase⟩⟩
  · refine State.failFrame_move hnext (h.imp_right fun ⟨howner, hpart⟩ => ⟨howner, fun hc => ?_⟩) _
    rw [hpart] at hc
    cases hc

/-! ### Grants (R65) -/

theorem State.firstFrame_move (hidle : s.line.record = none) (h : r.part = .single ∨ r.owner = .discovery) :
    s.view.Move off (s.driveFrame r).view :=
  State.driveFrame_move (h.imp_right .inl) (.inl (RoundView.noAssign_of_none hidle))

theorem State.grant_move (hidle : s.line.record = none) (g : Grant) : s.view.Move off (s.grant g).view := by
  cases g with
  | beacon => exact .from_eq (v' := (s.setBeaconPending false).view) rfl (State.firstFrame_move hidle (.inl rfl))
  | sched c =>
    unfold State.grant
    dsimp only
    split
    · next n h =>
      exact .from_eq (v' := ((s.setSchedClaim none).setEntry n ((s.entry n).granted c.attempt)).view) rfl
        (State.firstFrame_move hidle (.inl rfl))
    · exact .of_eq rfl
  | request c =>
    exact .from_eq (v' := (((s.setReqClaim none).setLastGrant .request).reqGranted).view) rfl
      (State.firstFrame_move hidle (.inl rfl))
  | round =>
    have hview : (((s.setRoundClaim false).setLastGrant .discovery).discGranted).view = s.view := State.discGranted_view _
    exact .from_eq hview (State.firstFrame_move ((congrArg RoundView.record hview).trans hidle) (.inr rfl))

theorem State.grantDecided_move (s : State) : s.view.Move off s.grantDecided.view := by
  unfold State.grantDecided
  split
  · next hmay =>
    have hidle : s.line.record = none := by
      simp only [State.mayGrant, Bool.and_eq_true, Option.isNone_iff_eq_none] at hmay
      exact hmay.1.2
    split
    · exact State.grant_move hidle _
    · exact .of_eq rfl
  · exact .of_eq rfl

theorem State.decideGrant_move (s : State) : s.view.Move off s.decideGrant.view := by
  unfold State.decideGrant
  split
  · exact .of_eq rfl
  · rw [State.chooseAtBoundary_view]
    exact .from_eq (s.setBoundary_view false) (State.grantDecided_move _)

/-! ### The phases of a transaction (R63, R70 to R74, R77) -/

theorem State.onRecord_move {may : Record → Bool} {event : Record → State}
    (h : ∀ r, s.line.record = some r → may r = true → s.view.Move off (event r).view) :
    s.view.Move off (s.onRecord may event).view := by
  unfold State.onRecord
  split
  · next r hr =>
    split
    · next hmay => exact h r hr hmay
    · exact .of_eq rfl
  · exact .of_eq rfl

theorem State.echoMismatch_move (s : State) (lrx : Level) : s.view.Move off (s.echoMismatch lrx).view := by
  refine State.onRecord_move fun r hr hmay => ?_
  have hphase : r.phase = .sending := by simp_all
  refine State.failFrame_move (RoundView.continues_of_same hr rfl rfl) ?_ true
  by_cases hround : r.owner = .discovery ∧ r.part = .assign
  · exact .inr ⟨hround.1, by simp [hround.2]⟩
  · exact .inl (RoundView.noAssign_of_some hr fun a ha => hround (ha.part_of_phase (by simp [hphase])))

theorem State.frameSentClean_move (s : State) : s.view.Move off s.frameSentClean.view := by
  refine State.onRecord_move fun r hr hmay => ?_
  have hphase : r.phase = .sending := by simp_all
  by_cases hreply : r.expectsReply = true
  · rw [State.frameSent_reply hreply]
    refine .advances hr rfl rfl fun a ha => ?_
    obtain ⟨howner, hpart⟩ := ha.part_of_phase (by simp [hphase])
    exact ⟨howner, .inr ⟨hpart, by simp⟩⟩
  · rw [State.frameSent_gap (by simpa using hreply)]
    refine .advances hr rfl rfl fun a ha => ?_
    obtain ⟨-, hpart⟩ := ha.part_of_phase (by simp [hphase])
    exact absurd (Record.expectsReply_iff.2 (.inl hpart)) hreply

theorem State.replyLeadingEdge_move (s : State) (onGrid : Bool) : s.view.Move off (s.replyLeadingEdge onGrid).view := by
  refine State.onRecord_move fun r hr hmay => ?_
  have hphase : r.phase = .waiting := by simp_all
  refine .advances hr rfl rfl fun a ha => ?_
  obtain ⟨howner, hpart⟩ := ha.part_of_phase (by simp [hphase])
  exact ⟨howner, .inr ⟨hpart, by simp⟩⟩

/-- An attempt classified; for a round it is the end of the ASSIGN exchange (R78, R92). -/
theorem State.classify_move (hr : s.line.record = some r) (howner : r'.owner = r.owner) (hpart : r'.part = r.part)
    (o : LineOutcome) (reply : Reply) : s.view.Move off (s.classify r' o reply).view := by
  unfold State.classify
  dsimp only
  split
  · obtain ⟨roster, hleaves, hview⟩ := (s.setRecord _).discAssignOutcome_view o
    rw [hview]
    exact .leaves_some (hleaves s.view.record) (RoundView.continues_of_same hr howner hpart)
  · next hround =>
    exact .replaced .same (RoundView.noAssign_of_some hr (Record.not_assigning_of_owner (howner ▸ hround))) fun r'' h => by
      rw [← Option.some.inj h]
      exact RoundView.continues_of_same hr howner hpart

theorem State.responseWaitExpiry_move (s : State) : s.view.Move off s.responseWaitExpiry.view :=
  State.onRecord_move fun _ hr _ => State.classify_move hr (by rfl) (by rfl) _ _

theorem State.replyReceptionEnd_move (s : State) (bytes : List RxByte) (onGrid : Bool) :
    s.view.Move off (s.replyReceptionEnd bytes onGrid).view :=
  State.onRecord_move fun _ hr _ => State.classify_move hr (by rfl) (by rfl) _ _

theorem State.replyDeadline_move (s : State) : s.view.Move off s.replyDeadline.view :=
  State.onRecord_move fun _ hr _ => State.classify_move hr (by rfl) (by rfl) _ _

/-- The decision on the slots: an identity admitted opens the ASSIGN exchange, nothing else does (R88 to R90). -/
theorem State.discDecide_move (hr : s.line.record = some r) (hphase : r.phase = .receiving) (hpart : r.part = .slots)
    (i : Ident) (check : Byte) :
    s.view.Move off ((s.discDecide i check).2.setRecord
      (some { r.close none false with after := (s.discDecide i check).1 })).view := by
  have hidle : s.view.NoAssign := RoundView.noAssign_of_some hr (Record.not_assigning_of_receiving hpart hphase)
  have hnext : ∀ after, s.view.Continues { r.close none false with after } := fun _ =>
    RoundView.continues_of_same hr rfl rfl
  cases hd : s.disc with
  | inRound sw rd =>
    by_cases hcheck : check = identCheck i
    · by_cases hi : i = 0
      · rw [hi, State.discDecide_empty hd (hi ▸ hcheck)]
        exact .leaves_some (.idle (.inl hidle)) (hnext _)
      · cases ha : (s.roster.admission i).1 with
        | some a =>
          rw [State.discDecide_valid hd hcheck hi ha]
          exact .admits hr (by simp [hpart]) hidle hi ha fun howner => ⟨howner, .inl ⟨hpart, rfl, i, rfl⟩⟩
        | none =>
          rw [State.discDecide_tableFull hd hcheck hi ha]
          exact .leaves_some (.idle (.inl hidle)) (hnext _)
    · rw [State.discDecide_noisy hd hcheck]
      exact .leaves_some (.idle (.inl hidle)) (hnext _)
  | idle | sweeping sw =>
    have hquiet : s.discDecide i check = (.finish, s) := by simp [State.discDecide, hd]
    rw [hquiet]
    exact .advances hr rfl rfl fun a ha => absurd ha (hidle r hr a)

theorem State.checkSlotsEnd_move (s : State) : s.view.Move off s.checkSlotsEnd.view := by
  refine State.onRecord_move fun r hr hmay => ?_
  have hphase : r.phase = .receiving ∧ r.part = .slots := by simp_all
  exact State.discDecide_move hr hphase.1 hphase.2 _ _

/-! ### The end of a closing gap, and the cut (R76 to R80, R95, R100) -/

/-- The outcome of an attempt reaches the Roster before its owner, which leaves the view alone (R76). -/
theorem State.deliver_view (s : State) (r : Record) (o : LineOutcome) : (s.deliver r o).view =
    ⟨s.roster.deliver (r.exchange == some .release) o r.dest s.timer.cycle, s.view.joining, none⟩ := by
  unfold State.deliver
  dsimp only
  split
  · rw [State.schedOutcome_view]; rfl
  · rw [State.reqOutcome_view]; rfl
  · rfl
  · rfl

theorem State.deliver_move (hr : s.line.record = some r) (howner : r.owner ≠ .discovery) (o : LineOutcome) :
    s.view.Move off (s.deliver r o).view := by
  rw [State.deliver_view]
  exact .replaced (s.roster.deliver_edit _ _ _ _) (RoundView.noAssign_of_some hr (Record.not_assigning_of_owner howner))
    fun r' h => by cases h

/-- A transaction that is no exchange of a round ends. -/
theorem RoundView.Move.ends (h : v.NoAssign) : v.Move off { v with record := none } :=
  .replaced .same h fun r' h => by cases h

/-- The round ends with no ASSIGN exchange in flight (R95). -/
theorem State.finishRound_move (h : s.view.NoAssign) (r : Record) : s.view.Move off (s.finishRound r).view := by
  unfold State.finishRound
  dsimp only
  rw [State.discRoundEnd_view]
  split
  · rw [State.discLineError_view]
    exact .leaves s.view.leaves_reverted fun r' h => by cases h
  · exact .leaves (.idle (.inl h)) fun r' h => by cases h

theorem State.gapEnd_move (hr : s.line.record = some r) (hphase : r.phase = .closing) :
    s.view.Move off (s.gapEnd r).view := by
  unfold State.gapEnd
  split
  · next howner =>
    rw [State.lineFree_view]
    exact .ends (RoundView.noAssign_of_some hr (Record.not_assigning_of_owner (by simp [howner])))
  · next c howner =>
    rw [State.lineFree_view]
    exact State.deliver_move hr (by simp [howner]) _
  · next howner =>
    have hidle : (∀ i a, r.after ≠ .assign i a) → s.view.NoAssign := fun hafter =>
      RoundView.noAssign_of_some hr (Record.not_assigning_of_after hphase hafter)
    split
    · next hafter =>
      rw [State.discPhase_view (fun h => by cases h)]
      exact .leaves_some (.idle (.inl (hidle (by simp [hafter])))) (.inr (.inl howner))
    · next hafter => exact State.driveFrame_move (.inr (.inl howner)) (.inl (hidle (by simp [hafter])))
    · exact State.driveFrame_move (.inr (.inl howner)) (.inr ⟨howner, rfl⟩)
    · next hafter => exact State.driveFrame_move (.inr (.inl howner)) (.inl (hidle (by simp [hafter])))
    · next hafter =>
      rw [State.roundClaimSeen_view, State.lineFree_view]
      exact State.finishRound_move (hidle (by simp [hafter])) r

theorem State.closingGapEnd_move (s : State) : s.view.Move off s.closingGapEnd.view := by
  refine State.onRecord_move fun r hr hmay => ?_
  have hphase : r.phase = .closing := by simp_all
  split
  · exact .from_eq (s.setBoundary_view false) (State.gapEnd_move hr hphase)
  · exact State.gapEnd_move hr hphase

/-- The cut: an exchange's outcome is delivered, a round's entry is reverted (R80, R100). -/
theorem State.cutLine_move (s : State) : s.view.Move off s.cutLine.view := by
  unfold State.cutLine
  split
  · exact .of_eq rfl
  · next r hr =>
    split
    · next howner => exact .ends (RoundView.noAssign_of_some hr (Record.not_assigning_of_owner (by simp [howner])))
    · next c howner => exact State.deliver_move hr (by simp [howner]) _
    · dsimp only
      rw [State.discRoundEnd_view, State.discAborted_view]
      split
      · rw [State.discLineError_view]
        exact .leaves s.view.leaves_reverted fun r' h => by cases h
      · exact .leaves s.view.leaves_reverted fun r' h => by cases h

/-! ### The end of a bit time (R64, R87) -/

/-- The slots' samples are over: the unit is in CHECK, as it waits for no ASSIGN there (R87). -/
theorem State.slotPhase_view (s : State) : s.slotPhase.view = s.view ∨
    s.slotPhase.view = { s.view with joining := none } ∧
      ∃ r, s.line.record = some r ∧ r.part = .slots ∧ r.phase = .receiving := by
  unfold State.slotPhase
  split
  · next r hr =>
    split
    · next h => exact .inr ⟨State.discPhase_view (fun h => by cases h) s, r, hr, h.1, h.2.1⟩
    · exact .inl rfl
  · exact .inl rfl

/-- The record counts one bit time more, and so keeps an ASSIGN exchange. -/
theorem RoundView.Move.counts (v : RoundView) (fin : Level) :
    v.Move off { v with record := v.record.map fun r => r.tick fin } := by
  cases hr : v.record with
  | none => exact .replaced .same (RoundView.noAssign_of_none hr) fun r' h => by cases h
  | some r => exact .advances hr rfl rfl fun a ha => ha

theorem State.tick_move (s : State) (mid fin : Level) : s.view.Move off (s.tick mid fin).view := by
  unfold State.tick
  dsimp only
  rw [State.boundaryChoice_view]
  obtain hview | ⟨hview, r', hr', hpart, hphase⟩ := State.slotPhase_view
    { s with
      run := { s.run with check := s.run.check.tick mid }
      timer := s.timer.tick
      line := { s.line with
        idleRun := nextIdleRun s.line.idleRun mid
        record := s.line.record.map fun r => r.tick fin
        boundary := true } }
  · rw [hview]
    exact .counts s.view fin
  · rw [hview]
    obtain ⟨r, hr, rfl⟩ := Option.map_eq_some_iff.1 hr'
    refine .leaves (.idle (.inl (RoundView.noAssign_of_some hr (Record.not_assigning_of_receiving hpart hphase))))
      fun r'' h => ?_
    rw [← Option.some.inj (hr'.symm.trans h)]
    exact RoundView.continues_of_same hr rfl rfl

theorem State.bitTimeEnd_move (s : State) (mid fin : Level) : s.view.Move off (s.bitTimeEnd mid fin).view := by
  unfold State.bitTimeEnd
  split
  · exact s.tick_move mid fin
  · exact .of_eq rfl

end Sys2Proof.Machine
end

section
/-! PROOFS. What every step does to the station table, the unit's wait for an ASSIGN and the record in flight; the laws of the table
and of JOINING (R21, R24, R27, R32, R35 to R38, R40, R151 to R157). -/

namespace Sys2Proof.Machine

open Sys2Proof

variable {off : Prop}

/-! ### Reset, STOP and HALT (R151, R152, R155, R157) -/

theorem State.resetBlocks_move (s : State) (asserted : Bool) : s.view.Move off (s.resetBlocks asserted).view := .resets

theorem State.resetPinAssert_move (s : State) (duringRead : Bool) : s.view.Move off (s.resetPinAssert duringRead).view := by
  unfold State.resetPinAssert
  dsimp only
  split
  · exact .resets
  · exact .resets

theorem State.resetPinRelease_move (s : State) : s.view.Move off s.resetPinRelease.view := by
  unfold State.resetPinRelease
  split
  · exact .resets
  · exact .of_eq rfl

theorem State.stop_move (s : State) : s.view.Move off s.stop.view := by
  unfold State.stop
  split
  · refine .of_eq ?_
    split
    · rw [State.setResult_view, State.ownersLeave_view]; rfl
    · rw [State.setResult_view, State.ownersLeave_view]; rfl
  · exact .from_eq s.enterOff_view (State.cutLine_move _)
  · exact .from_eq s.enterOff_view (State.cutLine_move _)
  all_goals exact .of_eq rfl

/-- HALT cuts the line once, as the engine's part or as the unit's; its other parts leave the view alone. -/
theorem State.halt_move (s : State) : s.view.Move off s.halt.view := by
  have hcut : ∀ u : State, u.view = s.view → s.view.Move off u.cutLine.view := fun u hu => .from_eq hu u.cutLine_move
  have hoff : s.enterOff.view = s.view := rfl
  have hparts : ∀ both : Bool, s.view.Move off (s.enterOff.engineAndUnit both
      (fun u => (if s.roundOnLine then u else u.cutLine).reqLeave)
      (fun u => (if s.roundOnLine then u.cutLine else u).endSweeping .aborted)).view := fun both => by
    unfold State.engineAndUnit
    cases s.roundOnLine <;> repeat' split
    all_goals
      simp only [State.reqLeave_view, State.endSweeping_view]
      exact hcut _ (by simp)
  unfold State.halt
  split
  case h_1 | h_2 | h_3 | h_4 => exact hparts _
  all_goals exact .of_eq rfl

/-! ### The Roster's commands (R35 to R38, R41) -/

/-- A FREE entry may take an identity that the lookup finds nowhere else (R36). -/
theorem Roster.heldOnlyAt_of_lookup {r : Roster} {i : Ident} {a : Nat} (hi : i ≠ 0) (hfree : (r.entry a).state = .free)
    (h : ¬ (r.lookup i).any (fun b => b != a) = true) : r.heldOnlyAt i a := by
  cases hl : r.lookup i with
  | none => exact fun b _ => (r.lookup_none hi).1 hl b
  | some b =>
    obtain ⟨-, -, hstate, -⟩ := r.lookup_some hl
    have hba : b = a := by simpa [hl] using h
    exact absurd hfree (hba ▸ hstate)

theorem State.pin_move (s : State) : s.view.Move off s.pin.view := by
  by_cases hknown : s.host.pinIdentity ≠ 0 ∧ stationAddress s.host.pinAddress = true
  · rw [State.pin_known rfl rfl hknown]
    split
    · exact .of_eq rfl
    next hjoining =>
    split
    · exact .of_eq rfl
    next hany =>
    split
    · next hfree =>
      exact .edits (.moved (.reserved hfree _ hknown.1 (Roster.heldOnlyAt_of_lookup hknown.1 hfree hany))
        (Roster.change_replaces hknown.2 _))
    next hfree =>
    split
    · exact .edits (.moved (.pinned hfree hjoining) (Roster.setEntry_replaces hknown.2 _))
    · exact .of_eq rfl
  · rw [State.pin_unknown rfl rfl hknown]
    exact .of_eq rfl

theorem State.unpin_move (s : State) : s.view.Move off s.unpin.view := by
  unfold State.unpin
  dsimp only
  split
  · exact .of_eq rfl
  next ha =>
  have hstation : stationAddress s.host.argNat = true := by simpa using ha
  split
  · exact .of_eq rfl
  · exact .of_eq rfl
  · next hst => exact .edits (.moved (.unreserved hst) (Roster.change_replaces hstation _))
  · next hst => exact .edits (.moved (.unpinned (.inl hst)) (Roster.setEntry_replaces hstation _))
  · next hst => exact .edits (.moved (.unpinned (.inr (.inl hst))) (Roster.setEntry_replaces hstation _))
  · next hst => exact .edits (.moved (.unpinned (.inr (.inr hst))) (Roster.setEntry_replaces hstation _))

theorem State.clearConflict_move (s : State) : s.view.Move off s.clearConflict.view := by
  unfold State.clearConflict
  dsimp only
  split
  · exact .of_eq rfl
  next ha =>
  have hstation : stationAddress s.host.argNat = true := by simpa using ha
  split
  · exact .of_eq rfl
  · exact .of_eq rfl
  all_goals
    next hst =>
      exact .edits (.moved (.cleared (ne_of_eq_of_ne hst (by decide)) (ne_of_eq_of_ne hst (by decide)))
        (Roster.setEntry_replaces hstation _))

theorem State.popChange_move (s : State) : s.view.Move off s.popChange.view := by
  cases hc : s.roster.changes with
  | nil => rw [State.popChange_nil hc]; exact .of_eq rfl
  | cons a rest => rw [State.popChange_cons hc]; exact .edits (.popped hc)

theorem State.threshLoad_move (s : State) : s.view.Move (s.run.state = .off) s.threshLoad.view := by
  unfold State.threshLoad
  split
  · exact .of_eq rfl
  next hoff =>
  split
  · next hvalid =>
    obtain ⟨hsuspect, horder, hlost, hretries⟩ := s.host.thresholdsValid_iff.1 hvalid
    exact .loads (not_not.1 hoff) ⟨hsuspect, horder, hlost, hretries⟩
  · exact .of_eq rfl

/-! ### The command register (R171, R172) -/

/-- A command's handling, as it moves the view from the state it finds. -/
theorem State.command_move {owner : State → State} (h : ∀ u : State, u.view.Move (u.run.state = .off) (owner u).view)
    (s : State) (code : Word) : s.view.Move (s.run.state = .off) (s.command code owner).view := by
  unfold State.command
  split
  · exact .of_eq rfl
  · split
    · exact .of_eq rfl
    · exact h (s.setCmd code)

theorem lookup_owner_move {table : List (Nat × (State → State))}
    (h : ∀ p ∈ table, ∀ u : State, u.view.Move (u.run.state = .off) (p.2 u).view) (n : Nat) (u : State) :
    u.view.Move (u.run.state = .off) (((table.lookup n).getD State.refuseUnknown) u).view := by
  induction table with
  | nil => exact .of_eq rfl
  | cons p table ih =>
    obtain ⟨hp, ht⟩ := List.forall_mem_cons.1 h
    rw [List.lookup_cons]
    split
    · exact hp u
    · exact ih ht

theorem commandTable_owner_move :
    ∀ p ∈ commandTable, ∀ u : State, u.view.Move (u.run.state = .off) (p.2 u).view := by
  simp only [commandTable, List.forall_mem_cons]
  exact ⟨fun u => u.resetBlocks_move false, fun u => .of_eq u.start_view, fun u => u.stop_move, fun u => u.halt_move,
    fun u => .of_eq u.resume_view, fun u => .of_eq u.timingLoad_view, fun u => u.threshLoad_move, fun u => u.pin_move,
    fun u => u.unpin_move, fun u => u.clearConflict_move, fun u => u.popChange_move, fun u => .of_eq u.stationSnap_view,
    fun u => .of_eq u.schedSet_view, fun u => .of_eq u.schedEnable_view, fun u => .of_eq u.schedDisable_view,
    fun u => .of_eq u.schedSnap_view, fun u => .of_eq u.take_view, fun u => .of_eq u.put_view,
    fun u => .of_eq u.submit_view, fun u => .of_eq u.cancel_view, fun u => .of_eq u.popCompletion_view,
    List.forall_mem_nil _⟩

theorem State.commandWrite_move (s : State) (code : Word) :
    s.view.Move (s.run.state = .off) (s.commandWrite code).view :=
  State.command_move (lookup_owner_move commandTable_owner_move code.toNat) s code

theorem State.registerWrite_move (s : State) (addr : BitVec 5) (v : Word) :
    s.view.Move (s.run.state = .off) (s.registerWrite addr v).view := by
  unfold State.registerWrite
  split
  case h_3 => exact s.commandWrite_move v
  case h_7 => exact .of_eq (s.busWrite_view rfl)
  all_goals exact .of_eq (by simp)

/-! ### One step -/

theorem exec_move (c : Instr) {s t : State} (h : exec c s = .next t) : s.view.Move (s.run.state = .off) t.view := by
  cases c with
  | resetPinAssert duringRead => cases h; exact s.resetPinAssert_move duringRead
  | resetPinRelease => cases h; exact s.resetPinRelease_move
  | initEnd => cases h; exact .of_eq s.initEnd_view
  | reset => cases h; exact State.command_move (fun u => u.resetBlocks_move false) s _
  | start => cases h; exact State.command_move (fun u => .of_eq u.start_view) s _
  | stop => cases h; exact State.command_move (fun u => u.stop_move) s _
  | halt => cases h; exact State.command_move (fun u => u.halt_move) s _
  | resume => cases h; exact State.command_move (fun u => .of_eq u.resume_view) s _
  | lineCheckStuck => cases h; exact .of_eq s.lineCheckStuck_view
  | lineCheckClear => cases h; exact .of_eq s.lineCheckClear_view
  | timingLoad => cases h; exact State.command_move (fun u => .of_eq u.timingLoad_view) s _
  | threshLoad => cases h; exact State.command_move (fun u => u.threshLoad_move) s _
  | pin => cases h; exact State.command_move (fun u => u.pin_move) s _
  | unpin => cases h; exact State.command_move (fun u => u.unpin_move) s _
  | clearConflict => cases h; exact State.command_move (fun u => u.clearConflict_move) s _
  | popChange => cases h; exact State.command_move (fun u => u.popChange_move) s _
  | stationSnap => cases h; exact State.command_move (fun u => .of_eq u.stationSnap_view) s _
  | schedSet => cases h; exact State.command_move (fun u => .of_eq u.schedSet_view) s _
  | schedEnable => cases h; exact State.command_move (fun u => .of_eq u.schedEnable_view) s _
  | schedDisable => cases h; exact State.command_move (fun u => .of_eq u.schedDisable_view) s _
  | schedSnap => cases h; exact State.command_move (fun u => .of_eq u.schedSnap_view) s _
  | take => cases h; exact State.command_move (fun u => .of_eq u.take_view) s _
  | put => cases h; exact State.command_move (fun u => .of_eq u.put_view) s _
  | submit => cases h; exact State.command_move (fun u => .of_eq u.submit_view) s _
  | cancel => cases h; exact State.command_move (fun u => .of_eq u.cancel_view) s _
  | popCompletion => cases h; exact State.command_move (fun u => .of_eq u.popCompletion_view) s _
  | unknownCommand code => cases h; exact s.commandWrite_move code
  | winSelWrite value => cases h; exact .of_eq (s.winSelWrite_view value)
  | winIndexWrite value => cases h; exact .of_eq (s.winIndexWrite_view value)
  | winDataRead => cases h; exact .of_eq s.winDataRead_view
  | winDataWrite value => cases h; exact .of_eq (s.winDataWrite_view value)
  | eventWrite value => cases h; exact .of_eq (s.eventWrite_view value)
  | enableWrite value => cases h; exact .of_eq (s.enableWrite_view value)
  | registerWrite addr value => cases h; exact s.registerWrite_move addr value
  | cycleStart => cases h; exact .of_eq s.openExpiry_view
  | schedWindowEnd => cases h; exact .of_eq s.schedExpiry_view
  | grantDecision => cases h; exact s.decideGrant_move
  | echoMismatch lrx => cases h; exact s.echoMismatch_move lrx
  | frameSentClean => cases h; exact s.frameSentClean_move
  | responseWaitExpiry => cases h; exact s.responseWaitExpiry_move
  | replyReceptionEnd bytes onGrid => cases h; exact s.replyReceptionEnd_move bytes onGrid
  | replyDeadline => cases h; exact s.replyDeadline_move
  | checkSlotsEnd => cases h; exact s.checkSlotsEnd_move
  | closingGapEnd => cases h; exact s.closingGapEnd_move
  | replyLeadingEdge onGrid => cases h; exact s.replyLeadingEdge_move onGrid
  | bitTimeEnd mid fin => cases h; exact s.bitTimeEnd_move mid fin

/-- Every step is one of the moves; the commands that wait are no part of the view. -/
theorem step_move {s t : State} (h : step s = .next t) : s.view.Move (s.run.state = .off) t.view := by
  cases hp : s.pending with
  | nil =>
    rw [step_of_pending_nil hp] at h
    cases h
    exact .of_eq rfl
  | cons c rest =>
    have hexec : exec c (s.setPending rest) = .next t := by
      unfold step at h
      rwa [hp] at h
    exact exec_move (s := s.setPending rest) c hexec

/-! ### The laws of the station table and of JOINING -/

/-- Settles O49: each move keeps the laws of the table (`RoundView.Move.roster_lawful`). -/
theorem rosterLaw : Obligations.RosterLaw := fun _ _ hlawful hstep => (step_move hstep).roster_lawful hlawful

/-- Settles O50: each move keeps the laws of JOINING and of health (`RoundView.Move.lawful`); in OFF nothing is in flight. -/
theorem joiningAndHealthLaw : Obligations.JoiningAndHealthLaw := fun _ _ hrun hjoining hhealth hstep =>
  State.view_lawful_iff.1 ((step_move hstep).lawful (State.view_lawful_iff.2 ⟨hjoining, hhealth⟩)
    fun hoff => hrun.quiet (.inr hoff))

end Sys2Proof.Machine
end

section
/-! PROOFS. What the owners of claims do between two changes of run state: the run state, the timer and the line's counts stay, and
outside RUNNING no claim is placed (R56, R61, R67, R83, R113, R136, R147). -/

namespace Sys2Proof.Machine

open Sys2Proof

/-! ### The acts of the owners -/

/-- Run Control, the Cycle Timer, and the counts of the Line Sequencer. -/
structure Stage where
  run        : RunControl
  timer      : CycleTimer
  idleRun    : Nat
  echoCount  : Nat
  lineErrors : Nat

def State.stage (s : State) : Stage :=
  ⟨s.run, s.timer, s.line.idleRun, s.line.echoCount, s.line.lineErrors⟩

/-- The record in flight, what waits for a grant, and what the unit and the engine hold of it. -/
structure Waiting where
  record     : Option Record
  beacon     : Bool
  schedClaim : Option Claim
  reqClaim   : Option Claim
  roundClaim : Bool
  disc       : Discovery
  head       : HeadCondition

def State.waiting (s : State) : Waiting :=
  ⟨s.line.record, s.line.beaconPending, s.line.schedClaim, s.line.reqClaim, s.line.roundClaim, s.disc, s.req.head⟩

/-- A claim of the open window has its owner waiting for it (R83, R136). -/
structure State.ClaimsTied (s : State) : Prop where
  round   : s.line.roundClaim = true → s.disc.isSweeping = true
  request : s.line.reqClaim.isSome = true → s.req.head = .claimed ∨ s.req.head.isRetryWaiting = true

/-- Nothing waits for a grant that did not wait before. -/
structure LineSequencer.PlacesNone (l l' : LineSequencer) : Prop where
  beacon  : l.beaconPending = false → l'.beaconPending = false
  sched   : l.schedClaim = none → l'.schedClaim = none
  request : l.reqClaim = none → l'.reqClaim = none
  round   : l.roundClaim = false → l'.roundClaim = false

theorem LineSequencer.PlacesNone.refl (l : LineSequencer) : l.PlacesNone l := ⟨id, id, id, id⟩

theorem LineSequencer.PlacesNone.trans {l l' l'' : LineSequencer} (h : l.PlacesNone l') (h' : l'.PlacesNone l'') :
    l.PlacesNone l'' :=
  ⟨h'.beacon ∘ h.beacon, h'.sched ∘ h.sched, h'.request ∘ h.request, h'.round ∘ h.round⟩

/-- What the owners of claims can do between two changes of run state: outside RUNNING they place nothing, a round's fault stays
seen, and in OFF the record may be cut (R80). -/
structure State.OwnersAct (s t : State) : Prop where
  stage  : t.stage = s.stage
  record : t.line.record = s.line.record ∨ t.line.record = none ∧ s.run.state = .off
  tied   : s.ClaimsTied → t.ClaimsTied
  places : s.run.state ≠ .running → s.line.PlacesNone t.line
  fault  : s.run.state.faulty = true → s.disc.roundFaulted → t.disc.roundFaulted

namespace State.OwnersAct

variable {s t u : State}

theorem run (h : s.OwnersAct t) : t.run = s.run := congrArg Stage.run h.stage
theorem timer (h : s.OwnersAct t) : t.timer = s.timer := congrArg Stage.timer h.stage

/-- The record is kept in every run state but OFF. -/
theorem record_eq (h : s.OwnersAct t) (hoff : s.run.state ≠ .off) : t.line.record = s.line.record :=
  h.record.resolve_right fun hcut => hoff hcut.2

theorem of_eq (hstage : t.stage = s.stage) (hwait : t.waiting = s.waiting) : s.OwnersAct t := by
  simp only [State.waiting, Waiting.mk.injEq] at hwait
  obtain ⟨hrecord, hbeacon, hsched, hreq, hround, hdisc, hhead⟩ := hwait
  refine ⟨hstage, .inl hrecord, fun h => ⟨?_, ?_⟩, fun _ => ⟨?_, ?_, ?_, ?_⟩, fun _ => ?_⟩
  · rw [hround, hdisc]; exact h.round
  · rw [hreq, hhead]; exact h.request
  · rw [hbeacon]; exact id
  · rw [hsched]; exact id
  · rw [hreq]; exact id
  · rw [hround]; exact id
  · rw [hdisc]; exact id

theorem refl (s : State) : s.OwnersAct s := of_eq rfl rfl

theorem trans (h : s.OwnersAct t) (h' : t.OwnersAct u) : s.OwnersAct u := by
  have hrun := h.run
  refine ⟨h'.stage.trans h.stage, ?_, h'.tied ∘ h.tied, fun hne => (h.places hne).trans (h'.places (by rwa [hrun])),
    fun hf => h'.fault (by rwa [hrun]) ∘ h.fault hf⟩
  rcases h'.record with h2 | ⟨h2, hoff⟩
  · rw [h2]; exact h.record
  · exact .inr ⟨h2, by rwa [hrun] at hoff⟩

/-- In RUNNING claims may be placed, as long as their owners wait for them. -/
theorem of_running (hrun : s.run.state = .running) (hstage : t.stage = s.stage) (hrecord : t.line.record = s.line.record)
    (htied : s.ClaimsTied → t.ClaimsTied) : s.OwnersAct t :=
  ⟨hstage, .inl hrecord, htied, fun hne => absurd hrun hne, fun hf => by rw [hrun] at hf; cases hf⟩

end State.OwnersAct

variable (s : State)

theorem State.EngineFrame.stage_eq {s t : State} (h : s.EngineFrame t) : t.stage = s.stage := by rw [h]; rfl

theorem State.EngineFrame.record_eq {s t : State} (h : s.EngineFrame t) : t.line.record = s.line.record := by rw [h]

/-! ### The Discovery Unit -/

theorem State.endSweep_acts (sw : Sweep) (o : LineOutcome) : s.OwnersAct (s.endSweep sw o) where
  stage := rfl
  record := .inl rfl
  tied h := ⟨fun hround => (by cases hround), h.request⟩
  places _ := ⟨id, id, id, fun _ => rfl⟩
  fault _ _ := trivial

/-- A ROUND claim is placed in RUNNING, or kept where it is placed already. -/
theorem State.placeRound_acts {s : State} (h : s.run.state = .running ∨ s.line.roundClaim = true) (sw : Sweep) :
    s.OwnersAct (s.placeRound sw) := by
  unfold State.placeRound
  split
  · refine ⟨rfl, .inl rfl, fun htied => ⟨fun _ => rfl, htied.request⟩, fun hne => ⟨id, id, id, fun hround => ?_⟩,
      fun _ _ => trivial⟩
    rw [h.resolve_left hne] at hround
    cases hround
  · exact s.endSweep_acts _ _

theorem State.discCycleStart_acts (applied : Bool) : s.OwnersAct (s.discCycleStart applied) := by
  unfold State.discCycleStart
  split
  · split
    · next h => exact State.placeRound_acts (.inr (Bool.and_eq_true _ _ ▸ h).2) _
    · exact .refl s
  · exact .refl s
  · exact .refl s

theorem State.endSweeping_acts (o : LineOutcome) : s.OwnersAct (s.endSweeping o) := by
  unfold State.endSweeping
  split
  · exact s.endSweep_acts _ _
  · exact .refl s
  · exact .refl s

/-- A round stays a round, with the fault it has seen. -/
theorem State.setDisc_inRound_acts {s : State} {sw sw' : Sweep} {rd rd' : Round} (hd : s.disc = .inRound sw rd)
    (hf : sw'.faultSeen = sw.faultSeen) : s.OwnersAct (s.setDisc (.inRound sw' rd')) where
  stage := rfl
  record := .inl rfl
  tied h := ⟨fun hround => (by have hsweeping := h.round hround; rw [hd] at hsweeping; cases hsweeping), h.request⟩
  places _ := .refl _
  fault _ h := by
    rw [hd] at h
    exact hf.trans h

theorem State.setRoster_acts (roster : Roster) : s.OwnersAct (s.setRoster roster) := .of_eq rfl rfl

theorem State.discPhase_acts (p : RoundPhase) : s.OwnersAct (s.discPhase p) := by
  unfold State.discPhase
  split
  · next hd => exact State.setDisc_inRound_acts hd rfl
  · exact .refl s
  · exact .refl s

theorem State.discDecide_acts (ident : Ident) (check : Byte) : s.OwnersAct (s.discDecide ident check).2 := by
  unfold State.discDecide
  split
  · next hd =>
    dsimp only
    split
    · exact State.setDisc_inRound_acts hd rfl
    split
    · exact State.setDisc_inRound_acts hd rfl
    split
    · exact (s.setRoster_acts _).trans (State.setDisc_inRound_acts (s := s.setRoster _) hd rfl)
    · exact State.setDisc_inRound_acts hd rfl
  · exact .refl s
  · exact .refl s

theorem State.discAssignOutcome_acts (o : LineOutcome) : s.OwnersAct (s.discAssignOutcome o) := by
  unfold State.discAssignOutcome
  split
  · next sw rd hd =>
    split
    · exact (s.setRoster_acts _).trans (State.setDisc_inRound_acts (s := s.setRoster _) hd rfl)
    · refine (s.setRoster_acts _).trans (State.setDisc_inRound_acts (s := s.setRoster _) hd ?_)
      unfold Sweep.counted
      split <;> rfl
  · exact .refl s
  · exact .refl s

theorem State.discLineError_acts : s.OwnersAct s.discLineError := by
  unfold State.discLineError
  split
  · next hd =>
    dsimp only
    split
    · exact (s.setRoster_acts _).trans (State.setDisc_inRound_acts (s := s.setRoster _) hd rfl)
    · exact State.setDisc_inRound_acts hd rfl
  · exact .refl s
  · exact .refl s

theorem State.discAborted_acts : s.OwnersAct s.discAborted := by
  unfold State.discAborted
  split
  · next hd =>
    dsimp only
    split
    · exact (s.setRoster_acts _).trans (State.setDisc_inRound_acts (s := s.setRoster _) hd rfl)
    · exact State.setDisc_inRound_acts hd rfl
  · exact .refl s
  · exact .refl s

theorem State.slotPhase_acts : s.OwnersAct s.slotPhase := by
  unfold State.slotPhase
  split
  · split
    · exact s.discPhase_acts _
    · exact .refl s
  · exact .refl s

theorem State.cancelSweep_acts : s.OwnersAct s.cancelSweep := by
  unfold State.cancelSweep
  split
  · exact s.endSweep_acts _ _
  · next hd => exact State.setDisc_inRound_acts hd rfl
  · exact .refl s

/-- The round now ending ends its sweep (R95). -/
def State.RoundEndsSweep (s : State) : Prop :=
  ∀ sw rd, s.disc = .inRound sw rd → sw.faultSeen = true ∨ rd.aborted = true ∨ s.run.state = .draining

theorem Sweep.courseAtRoundEnd_isSome {sw : Sweep} {rd : Round} {draining : Bool}
    (h : sw.faultSeen = true ∨ rd.aborted = true ∨ draining = true) (retries : Nat) :
    ∃ o, sw.courseAtRoundEnd rd retries draining = some o := by
  unfold Sweep.courseAtRoundEnd
  rcases h with h | h | h
  · exact ⟨.lineError, if_pos h⟩
  · simp only [h, if_true]
    split
    all_goals exact ⟨_, rfl⟩
  · simp only [h, if_true]
    repeat' split
    all_goals exact ⟨_, rfl⟩

/-- The end of a round: outside RUNNING it has to end the sweep, since no claim may be placed there. -/
theorem State.discRoundEnd_acts {s : State} (h : s.run.state = .running ∨ s.RoundEndsSweep) :
    s.OwnersAct s.discRoundEnd := by
  unfold State.discRoundEnd
  split
  · next sw rd hd =>
    split
    · exact s.endSweep_acts _ _
    · next hnone =>
      refine State.placeRound_acts (.inl (h.resolve_right fun hends => ?_)) _
      have hcourse := hends sw rd hd
      rw [← beq_iff_eq (a := s.run.state)] at hcourse
      obtain ⟨o, ho⟩ := Sweep.courseAtRoundEnd_isSome hcourse s.roster.discRetries
      rw [ho] at hnone
      cases hnone
  · exact .refl s
  · exact .refl s

/-! ### The Request Engine -/

/-- A head whose claim is withdrawn completes (R144). -/
theorem State.completeHead_acts {s : State} (h : s.ClaimsTied → s.line.reqClaim = none) (o : LineOutcome) (n : Nat) (reply : Reply) :
    s.OwnersAct (s.completeHead o n reply) := by
  unfold State.completeHead
  split
  · exact .refl s
  · refine ⟨rfl, .inl rfl, fun htied => ⟨htied.round, fun hreq => ?_⟩, fun _ => .refl _, fun _ => id⟩
    change s.line.reqClaim.isSome = true at hreq
    rw [h htied] at hreq
    cases hreq

theorem State.setReqClaim_none_acts : s.OwnersAct (s.setReqClaim none) where
  stage := rfl
  record := .inl rfl
  tied h := ⟨h.round, fun hreq => by cases hreq⟩
  places _ := ⟨id, id, fun _ => rfl, id⟩
  fault _ := id

theorem State.mayTakeUp_running {s : State} (h : s.mayTakeUp = true) : s.run.state = .running ∧ s.req.head = .untaken := by
  simp only [State.mayTakeUp, Bool.and_eq_true, beq_iff_eq] at h
  exact h.1

theorem State.ClaimsTied.request_none {s : State} (h : s.ClaimsTied)
    (hhead : s.req.head = .untaken ∨ s.req.head = .onLine) : s.line.reqClaim = none := by
  cases hc : s.line.reqClaim with
  | none => rfl
  | some c =>
    have hwaits := h.request (by rw [hc]; rfl)
    rcases hhead with hhead | hhead <;> simp [hhead, HeadCondition.isRetryWaiting] at hwaits

/-- Nothing is taken up outside RUNNING; there a claim is placed for a head that is CLAIMED, a ROUND claim for a unit that is
SWEEPING (R84, R136, R138). -/
theorem State.takeUpFuel_acts (n : Nat) (s : State) : s.OwnersAct (s.takeUpFuel n) := by
  induction n generalizing s with
  | zero => exact .refl s
  | succ n ih =>
    unfold State.takeUpFuel
    split
    · exact .refl s
    next q rest hq =>
    split
    · next hmay =>
      obtain ⟨hrun, hhead⟩ := State.mayTakeUp_running hmay
      have hreserve : s.OwnersAct (s.setReservations (s.req.reservations + 1)) := .of_eq rfl rfl
      dsimp only
      split
      · exact (hreserve.trans (State.completeHead_acts (s := s.setReservations (s.req.reservations + 1))
          (fun htied => htied.request_none (.inl hhead)) _ _ _)).trans (ih _)
      · have hqueue : s.OwnersAct ((s.setReservations (s.req.reservations + 1)).setQueue rest) := .of_eq rfl rfl
        exact (hqueue.trans (State.placeRound_acts
          (s := (s.setReservations (s.req.reservations + 1)).setQueue rest) (.inl hrun) _)).trans (ih _)
      · exact .of_running hrun rfl rfl fun htied => ⟨htied.round, fun _ => .inl rfl⟩
    · exact .refl s

theorem State.takeUp_acts : s.OwnersAct s.takeUp := s.takeUpFuel_acts _

theorem State.OwnersAct.takeUp {s t : State} (h : s.OwnersAct t) : s.OwnersAct t.takeUp := h.trans t.takeUp_acts

theorem State.finishHead_acts (o : LineOutcome) (n : Nat) (reply : Reply) : s.OwnersAct (s.finishHead o n reply) :=
  (s.setReqClaim_none_acts.trans (State.completeHead_acts (fun _ => rfl) o n reply)).trans (State.takeUp_acts _)

theorem State.reqOutcome_acts (o : LineOutcome) (n : Nat) (reply : Reply) : s.OwnersAct (s.reqOutcome o n reply) := by
  unfold State.reqOutcome
  split
  · exact .refl s
  · split
    · next h =>
      simp only [Bool.and_eq_true, beq_iff_eq] at h
      exact .of_running h.1.2 rfl rfl fun htied => ⟨htied.round, fun _ => .inr rfl⟩
    · exact s.finishHead_acts o n reply

theorem State.reqWindowOpens_acts : s.OwnersAct s.reqWindowOpens := by
  unfold State.reqWindowOpens
  split
  · exact .refl s
  split
  · split
    · exact s.finishHead_acts _ _ _
    split
    · exact s.finishHead_acts _ _ _
    · exact .refl s
  · split
    · exact s.finishHead_acts _ _ _
    · exact .refl s
  · exact .refl s
  · exact .refl s

/-- A CLAIMED head goes back to UNTAKEN or leaves the queue, its claim withdrawn (R146, R147). -/
theorem State.unclaimHead_acts {t : State} (hstage : t.stage = s.stage)
    (hwait : t.waiting = { s.waiting with reqClaim := none, head := .untaken }) : s.OwnersAct t := by
  refine s.setReqClaim_none_acts.trans ⟨hstage, ?_, ?_, ?_, ?_⟩ <;>
    simp only [State.waiting, Waiting.mk.injEq] at hwait <;>
    obtain ⟨hrecord, hbeacon, hsched, hreq, hround, hdisc, hhead⟩ := hwait
  · exact .inl hrecord
  · exact fun h => ⟨by rw [hround, hdisc]; exact h.round, by rw [hreq]; exact fun h => by cases h⟩
  · exact fun _ => ⟨by rw [hbeacon]; exact id, by rw [hsched]; exact id, fun _ => hreq, by rw [hround]; exact id⟩
  · rw [hdisc]; exact fun _ => id

theorem State.reqLeave_acts : s.OwnersAct s.reqLeave := by
  unfold State.reqLeave
  split
  · exact s.unclaimHead_acts rfl rfl
  · exact s.finishHead_acts _ _ _
  · exact .refl s
  · exact .refl s

theorem State.submit_acts : s.OwnersAct s.submit := by
  unfold State.submit
  dsimp only
  split
  · exact .of_eq rfl rfl
  · split
    · exact .takeUp (.of_eq rfl rfl)
    · exact .of_eq rfl rfl

theorem State.cancelHead_acts : s.OwnersAct s.cancelHead := by
  unfold State.cancelHead
  split
  · exact .takeUp (.of_eq rfl rfl)
  · exact .takeUp (s.unclaimHead_acts rfl rfl)
  · exact .of_eq rfl rfl
  · exact .of_eq rfl rfl

theorem State.setResult_acts (code : ResultCode) (val : Nat) : s.OwnersAct (s.setResult code val) := .of_eq rfl rfl

theorem State.cancel_acts : s.OwnersAct s.cancel := by
  unfold State.cancel
  dsimp only
  split
  · exact s.setResult_acts _ _
  split
  · exact s.cancelHead_acts
  · exact .of_eq rfl rfl
  · split
    · exact s.cancelSweep_acts.trans (State.setResult_acts _ _ _)
    · exact s.setResult_acts _ _

theorem State.popCompletion_acts : s.OwnersAct s.popCompletion := by
  unfold State.popCompletion
  split
  · exact s.setResult_acts _ _
  · exact .takeUp (.of_eq rfl rfl)

/-! ### The Poll Scheduler -/

/-- The Scheduler chooses in RUNNING alone (R113). -/
theorem State.choose_acts : s.OwnersAct s.choose := by
  by_cases h : s.scheduling = true
  · have hrun : s.run.state = .running := by
      simp only [State.scheduling, Bool.and_eq_true, beq_iff_eq] at h
      exact h.1
    refine .of_running hrun ?_ (by simp) fun htied => ⟨?_, ?_⟩
    · simp [State.stage]
    · simpa using htied.round
    · simpa using htied.request
  · rw [State.choose_of_not_scheduling _ (by simpa using h)]
    exact .refl s

theorem State.chooseAtBoundary_acts : s.OwnersAct s.chooseAtBoundary := by
  unfold State.chooseAtBoundary
  split
  · exact s.choose_acts
  · exact .refl s

theorem State.boundaryChoice_acts : s.OwnersAct s.boundaryChoice := by
  have hfree : s.OwnersAct s.nextFree := .of_eq rfl rfl
  unfold State.boundaryChoice
  split
  · split
    · exact hfree.trans (State.choose_acts _)
    · exact hfree
  · exact s.chooseAtBoundary_acts

theorem State.mailboxOutcome_acts (n : Nat) (o : LineOutcome) (reply : Reply) :
    s.OwnersAct (s.mailboxOutcome n o reply) := by
  unfold State.mailboxOutcome
  dsimp only
  split
  · exact .of_eq rfl rfl
  split
  · split
    · exact .of_eq rfl rfl
    · exact .of_eq rfl rfl
  · exact .refl s

theorem State.setEntry_acts (n : Nat) (e : SchedEntry) : s.OwnersAct (s.setEntry n e) := .of_eq rfl rfl

/-- A retry is placed in RUNNING alone (R117). -/
theorem State.schedOutcome_acts (n : Nat) (o : LineOutcome) (reply : Reply) :
    s.OwnersAct (s.schedOutcome n o reply) := by
  have htaken := (s.setEntry_acts n ((s.entry n).noteOutcome o reply s.timer.cycle)).trans
    (State.mailboxOutcome_acts _ n o reply)
  unfold State.schedOutcome
  dsimp only
  split
  · exact htaken
  refine htaken.trans ?_
  split
  · next h =>
    simp only [State.schedRetry, State.scheduling, Bool.and_eq_true, beq_iff_eq] at h
    exact .of_running (by tauto) rfl rfl fun htied => ⟨htied.round, htied.request⟩
  · exact (State.setEntry_acts _ _ _).trans (State.choose_acts _)

theorem State.setSchedClaim_none_acts : s.OwnersAct (s.setSchedClaim none) where
  stage := rfl
  record := .inl rfl
  tied h := ⟨h.round, h.request⟩
  places _ := ⟨id, fun _ => rfl, id, id⟩
  fault _ := id

theorem State.schedWithdraw_acts : s.OwnersAct s.schedWithdraw := s.setSchedClaim_none_acts.trans (.of_eq rfl rfl)

theorem State.schedLeave_acts : s.OwnersAct s.schedLeave := s.schedWithdraw_acts.trans (.of_eq rfl rfl)

theorem State.schedCycleStart_acts : s.OwnersAct s.schedCycleStart := by
  unfold State.schedCycleStart
  refine .trans ?_ (State.choose_acts _)
  split
  · exact .of_eq rfl rfl
  · exact .of_eq rfl rfl

theorem State.schedDisable_acts : s.OwnersAct s.schedDisable := by
  have hwithdraw : ∀ e : SchedEntry, s.OwnersAct ((s.setEntry s.host.argNat e).setSchedClaim none).choose := fun e =>
    ((s.setEntry_acts _ e).trans (State.setSchedClaim_none_acts _)).trans (State.choose_acts _)
  unfold State.schedDisable
  dsimp only
  split
  · exact s.setResult_acts _ _
  split
  case h_5 =>
    refine .trans ?_ (State.setResult_acts _ _ _)
    split
    · exact hwithdraw _
    · exact s.setEntry_acts _ _
  case h_6 =>
    split
    · exact .of_eq rfl rfl
    · exact (hwithdraw _).trans (State.setResult_acts _ _ _)
  all_goals exact .of_eq rfl rfl

/-! ### Outcomes, the end of a round, the cut (R76, R80, R95) -/

/-- Once the record is gone, an outcome reaches the Roster and its owner (R76). -/
theorem State.deliver_acts (r : Record) (o : LineOutcome) : (s.setRecord none).OwnersAct (s.deliver r o) := by
  unfold State.deliver
  dsimp only
  split
  · exact (State.setRoster_acts _ _).trans (State.schedOutcome_acts _ _ _ _)
  · exact (State.setRoster_acts _ _).trans (State.reqOutcome_acts _ _ _ _)
  · exact State.setRoster_acts _ _
  · exact State.setRoster_acts _ _

/-- A round that has been aborted ends its sweep (R95, R100). -/
theorem State.discAborted_endsSweep : s.discAborted.RoundEndsSweep := by
  unfold State.discAborted
  split
  · intro sw rd hd
    cases hd
    exact .inr (.inl rfl)
  · next hd => intro sw rd hd'; rw [hd] at hd'; cases hd'
  · next hd => intro sw rd hd'; rw [hd] at hd'; cases hd'

/-- In OFF the record in flight is cut, and its outcome handed on (R80, R155, R157). -/
theorem State.cutLine_acts {s : State} (hoff : s.run.state = .off) : s.OwnersAct s.cutLine ∧ s.cutLine.line.record = none := by
  have hcut : s.OwnersAct (s.setRecord none) :=
    ⟨rfl, .inr ⟨rfl, hoff⟩, fun h => ⟨h.round, h.request⟩, fun _ => ⟨id, id, id, id⟩, fun _ => id⟩
  have hkept : ∀ {u : State}, (s.setRecord none).OwnersAct u → s.OwnersAct u ∧ u.line.record = none := fun hu =>
    ⟨hcut.trans hu, hu.record.elim id And.left⟩
  unfold State.cutLine
  split
  · next hnone => exact ⟨.refl s, hnone⟩
  split
  · exact hkept (.refl _)
  · exact hkept (s.deliver_acts _ _)
  · dsimp only
    refine hkept (.trans (.trans ?_ (State.discAborted_acts _)) (State.discRoundEnd_acts (.inr (State.discAborted_endsSweep _))))
    split
    · exact State.discLineError_acts _
    · exact .refl _

/-! ### The Host Port, the snapshots, the Roster's commands -/

theorem State.busWrite_acts {store : State → State} (h : s.OwnersAct (store s)) : s.OwnersAct (s.busWrite store) := by
  unfold State.busWrite
  split
  · exact .refl s
  · exact h

theorem State.winSelWrite_acts (v : Word) : s.OwnersAct (s.winSelWrite v) := s.busWrite_acts (.of_eq rfl rfl)
theorem State.winDataWrite_acts (v : Word) : s.OwnersAct (s.winDataWrite v) := s.busWrite_acts (.of_eq rfl rfl)
theorem State.eventWrite_acts (v : Word) : s.OwnersAct (s.eventWrite v) := s.busWrite_acts (.of_eq rfl rfl)
theorem State.enableWrite_acts (v : Word) : s.OwnersAct (s.enableWrite v) := s.busWrite_acts (.of_eq rfl rfl)

theorem State.winIndexWrite_acts (v : Word) : s.OwnersAct (s.winIndexWrite v) := by
  refine s.busWrite_acts ?_
  split
  · split
    · exact .of_eq rfl rfl
    · exact .refl s
  · exact .refl s

theorem State.winDataRead_acts : s.OwnersAct s.winDataRead := by
  unfold State.winDataRead
  split
  · exact .of_eq rfl rfl
  · exact .of_eq rfl rfl

theorem State.threshLoad_acts : s.OwnersAct s.threshLoad := by
  unfold State.threshLoad
  repeat' split
  all_goals exact .of_eq rfl rfl

theorem State.pin_acts : s.OwnersAct s.pin := by
  unfold State.pin
  dsimp only
  repeat' split
  all_goals exact .of_eq rfl rfl

theorem State.unpin_acts : s.OwnersAct s.unpin := by
  unfold State.unpin
  dsimp only
  repeat' split
  all_goals exact .of_eq rfl rfl

theorem State.clearConflict_acts : s.OwnersAct s.clearConflict := by
  unfold State.clearConflict
  dsimp only
  repeat' split
  all_goals exact .of_eq rfl rfl

theorem State.popChange_acts : s.OwnersAct s.popChange := by
  unfold State.popChange
  split
  all_goals exact .of_eq rfl rfl

theorem State.setSnap_acts (ws : List Word) : s.OwnersAct (s.setSnap ws) := .of_eq rfl rfl

theorem State.stationSnap_acts : s.OwnersAct s.stationSnap := by
  unfold State.stationSnap
  dsimp only
  split
  · exact (s.setSnap_acts _).trans (State.setResult_acts _ _ _)
  · exact s.setResult_acts _ _

theorem State.schedSnap_acts : s.OwnersAct s.schedSnap := by
  unfold State.schedSnap
  dsimp only
  split
  · exact (s.setSnap_acts _).trans (State.setResult_acts _ _ _)
  · exact s.setResult_acts _ _

theorem State.schedSet_acts : s.OwnersAct s.schedSet := by
  unfold State.schedSet
  dsimp only
  repeat' split
  all_goals exact .of_eq rfl rfl

theorem State.schedEnable_acts : s.OwnersAct s.schedEnable := by
  unfold State.schedEnable
  dsimp only
  repeat' split
  all_goals exact .of_eq rfl rfl

theorem State.take_acts : s.OwnersAct s.take := by
  unfold State.take
  dsimp only
  repeat' split
  all_goals exact .of_eq rfl rfl

theorem State.put_acts : s.OwnersAct s.put := by
  unfold State.put
  dsimp only
  repeat' split
  all_goals exact .of_eq rfl rfl

end Sys2Proof.Machine
end

section
/-! PROOFS. The laws of the run states under each event of the line, each change of run state and each end of a window (R56, R62,
R67, R147, R151, R155 to R160). -/

namespace Sys2Proof.Machine

open Sys2Proof

variable {s t u : State}

/-! ### Lawful states, by run state -/

theorem State.RunLawful.tied (h : s.RunLawful) : s.ClaimsTied := ⟨h.roundClaim, h.reqClaim⟩

/-- What the owners of claims do keeps the laws. -/
theorem State.OwnersAct.runLawful (h : s.OwnersAct t) (hs : s.RunLawful) : t.RunLawful := by
  have hrun := h.run
  have htied := h.tied hs.tied
  constructor
  case window => rw [h.timer, hrun]; exact hs.window
  case quiet =>
    rw [hrun]
    intro hq
    rcases h.record with hr | ⟨hr, -⟩
    · rw [hr]; exact hs.quiet hq
    · exact hr
  case runsOut =>
    rw [hrun]
    intro hf r hr
    rcases h.record with heq | ⟨hnone, -⟩
    · exact hs.runsOut hf r (heq ▸ hr)
    · rw [hnone] at hr; cases hr
  case draining =>
    rw [hrun]
    intro hd
    rw [h.record_eq (by simp [hd])]
    exact hs.draining hd
  case claims =>
    rw [hrun]
    intro hne
    obtain ⟨hbeacon, hsched, hreq, hround⟩ := hs.claims hne
    have hplaces := h.places hne
    exact ⟨hplaces.beacon hbeacon, hplaces.sched hsched, hplaces.request hreq, hplaces.round hround⟩
  case roundClaim => exact htied.round
  case reqClaim => exact htied.request
  case fault =>
    rw [hrun]
    exact fun hf => h.fault hf (hs.fault hf)
  case check => rw [hrun]; exact hs.check
  case reset => rw [hrun]; exact hs.reset

/-- In RUNNING the laws ask for a window, no line check and claims whose owners wait for them. -/
theorem State.runLawful_running (hrun : s.run.state = .running) (hwindow : s.timer.window ≠ .noWindow)
    (hcheck : s.run.check = .idle) (hreset : s.run.resetAsserted = false) (htied : s.ClaimsTied) : s.RunLawful where
  window := iff_of_true hwindow (by rw [hrun]; rfl)
  quiet h := by simp [hrun] at h
  runsOut h := by simp [hrun, RunState.faulty] at h
  draining h := by simp [hrun] at h
  claims h := absurd hrun h
  roundClaim := htied.round
  reqClaim := htied.request
  fault h := by simp [hrun, RunState.faulty] at h
  check := by simp [hrun, hcheck]
  reset h := by simp [hreset] at h

/-- No claim and no beacon waits for a grant. -/
structure State.NoClaims (s : State) : Prop where
  beacon  : s.line.beaconPending = false
  sched   : s.line.schedClaim = none
  request : s.line.reqClaim = none
  round   : s.line.roundClaim = false

theorem State.NoClaims.tied (h : s.NoClaims) : s.ClaimsTied :=
  ⟨fun hround => (by rw [h.round] at hround; cases hround), fun hreq => (by rw [h.request] at hreq; cases hreq)⟩

theorem State.RunLawful.noClaims (h : s.RunLawful) (hne : s.run.state ≠ .running) : s.NoClaims :=
  let ⟨hbeacon, hsched, hreq, hround⟩ := h.claims hne
  ⟨hbeacon, hsched, hreq, hround⟩

theorem State.OwnersAct.noClaims (h : s.OwnersAct t) (hne : s.run.state ≠ .running) (hs : s.NoClaims) : t.NoClaims :=
  have hplaces := h.places hne
  ⟨hplaces.beacon hs.beacon, hplaces.sched hs.sched, hplaces.request hs.request, hplaces.round hs.round⟩

/-- In OFF nothing waits, nothing runs and nothing is in flight. -/
theorem State.runLawful_off (hoff : s.run.state = .off) (hwindow : s.timer.window = .noWindow) (hcheck : s.run.check = .idle)
    (hreset : s.run.resetAsserted = false) (hrecord : s.line.record = none) (hclaims : s.NoClaims) : s.RunLawful where
  window := by simp [hoff, hwindow, RunState.windowed]
  quiet _ := hrecord
  runsOut h := by simp [hoff, RunState.faulty] at h
  draining h := by simp [hoff] at h
  claims _ := ⟨hclaims.beacon, hclaims.sched, hclaims.request, hclaims.round⟩
  roundClaim := hclaims.tied.round
  reqClaim := hclaims.tied.request
  fault h := by simp [hoff, RunState.faulty] at h
  check := by simp [hoff, hcheck]
  reset h := by simp [hreset] at h

/-- In DRAINING a transaction is in flight, and nothing waits. -/
theorem State.runLawful_draining (hst : s.run.state = .draining) (hwindow : s.timer.window ≠ .noWindow)
    (hcheck : s.run.check = .idle) (hreset : s.run.resetAsserted = false) (hrecord : s.line.record.isSome = true)
    (hclaims : s.NoClaims) : s.RunLawful where
  window := iff_of_true hwindow (by rw [hst]; rfl)
  quiet h := by simp [hst] at h
  runsOut h := by simp [hst, RunState.faulty] at h
  draining _ := hrecord
  claims _ := ⟨hclaims.beacon, hclaims.sched, hclaims.request, hclaims.round⟩
  roundClaim := hclaims.tied.round
  reqClaim := hclaims.tied.request
  fault h := by simp [hst, RunState.faulty] at h
  check := by simp [hst, hcheck]
  reset h := by simp [hreset] at h

/-- In FAULTED a closing gap may run out, and a round in flight has seen the fault. -/
theorem State.runLawful_faulted (hst : s.run.state = .faulted) (hwindow : s.timer.window = .noWindow)
    (hcheck : s.run.check = .idle) (hreset : s.run.resetAsserted = false)
    (hrecord : ∀ r, s.line.record = some r → r.runsOut) (hclaims : s.NoClaims) (hfault : s.disc.roundFaulted) :
    s.RunLawful where
  window := by simp [hst, hwindow, RunState.windowed]
  quiet h := by simp [hst] at h
  runsOut _ := hrecord
  draining h := by simp [hst] at h
  claims _ := ⟨hclaims.beacon, hclaims.sched, hclaims.request, hclaims.round⟩
  roundClaim := hclaims.tied.round
  reqClaim := hclaims.tied.request
  fault _ := hfault
  check := by simp [hst, hcheck]
  reset h := by simp [hreset] at h

theorem State.RunLawful.not_asserted (h : s.RunLawful) (hne : s.run.state ≠ .init) : s.run.resetAsserted = false := by
  cases ha : s.run.resetAsserted with
  | false => rfl
  | true => exact absurd (h.reset ha) hne

theorem State.RunLawful.window_none (h : s.RunLawful) (hst : s.run.state.windowed = false) : s.timer.window = .noWindow := by
  by_contra hne
  rw [h.window.1 hne] at hst
  cases hst

theorem State.RunLawful.check_idle (h : s.RunLawful) (hst : s.run.state ≠ .checking) : s.run.check = .idle := by
  by_contra hne
  exact hst (h.check.1 hne)

/-! ### The record in flight -/

theorem State.OwnersAct.record_none (h : s.OwnersAct t) (hs : s.line.record = none) : t.line.record = none :=
  h.record.elim (fun heq => heq.trans hs) And.left

/-- A record that has more to do than run out its closing gap is held in RUNNING or DRAINING alone (R158, R159). -/
theorem State.RunLawful.windowed (h : s.RunLawful) {r : Record} (hr : s.line.record = some r) (hmore : ¬ r.runsOut) :
    s.run.state = .running ∨ s.run.state = .draining := by
  have hquiet : ¬ (s.run.state = .init ∨ s.run.state = .off) := fun hq => by
    rw [h.quiet hq] at hr
    cases hr
  have hfaulty : s.run.state.faulty ≠ true := fun hf => hmore (h.runsOut hf r hr)
  cases hst : s.run.state <;> simp [hst, RunState.faulty] at hquiet hfaulty ⊢

/-- A transaction in RUNNING or DRAINING goes on as it may. -/
theorem State.RunLawful.setRecord_some (h : s.RunLawful) (hst : s.run.state = .running ∨ s.run.state = .draining)
    (r : Record) : (s.setRecord (some r)).RunLawful where
  window := h.window
  quiet hq := by rcases hst with hst | hst <;> simp [hst] at hq
  runsOut hf := by rcases hst with hst | hst <;> simp [hst, RunState.faulty] at hf
  draining _ := rfl
  claims := h.claims
  roundClaim := h.roundClaim
  reqClaim := h.reqClaim
  fault := h.fault
  check := h.check
  reset := h.reset

/-- A transaction ends: outside DRAINING, which waits for its end, the laws are kept. -/
theorem State.RunLawful.setRecord_none (h : s.RunLawful) (hst : s.run.state ≠ .draining) :
    (s.setRecord none).RunLawful where
  window := h.window
  quiet _ := rfl
  runsOut _ r hr := by cases hr
  draining hd := absurd hd hst
  claims := h.claims
  roundClaim := h.roundClaim
  reqClaim := h.reqClaim
  fault := h.fault
  check := h.check
  reset := h.reset

/-! ### Leaving RUNNING (R58, R99, R120, R147) -/

theorem State.reqLeave_request (hne : s.run.state ≠ .running) (htied : s.ClaimsTied) :
    s.reqLeave.line.reqClaim = none := by
  unfold State.reqLeave
  split
  · rfl
  · have hhead := State.completeHead_acts (s := s.setReqClaim none) (fun _ => rfl)
    exact ((hhead _ _ _).takeUp.places hne).request rfl
  · next hhead => exact htied.request_none (.inl hhead)
  · next hhead => exact htied.request_none (.inr hhead)

theorem State.endSweeping_round (o : LineOutcome) (htied : s.ClaimsTied) :
    (s.endSweeping o).line.roundClaim = false := by
  rw [State.endSweeping_eq]
  show (if s.disc.isSweeping = true then false else s.line.roundClaim) = false
  split
  · rfl
  · next hnot => exact Bool.eq_false_iff.2 fun hround => hnot (htied.round hround)

/-- The engine's part of a change of run state and the unit's, in either order: each keeps what the other is to bring about. -/
theorem State.engineAndUnit_ensures {Inv P Q : State → Prop} {engine unit : State → State} (both : Bool)
    (hfree : Inv s.nextFree) (hs : Inv s)
    (hengine : ∀ u, Inv u → Inv (engine u) ∧ P (engine u) ∧ (Q u → Q (engine u)))
    (hunit : ∀ u, Inv u → Inv (unit u) ∧ Q (unit u) ∧ (P u → P (unit u))) :
    let t := s.engineAndUnit both engine unit
    Inv t ∧ P t ∧ Q t := by
  have engineFirst : ∀ u, Inv u → Inv (unit (engine u)) ∧ P (unit (engine u)) ∧ Q (unit (engine u)) := fun u hu =>
    have ⟨h1, hp, _⟩ := hengine u hu
    have ⟨h2, hq, hkeep⟩ := hunit _ h1
    ⟨h2, hkeep hp, hq⟩
  have unitFirst : ∀ u, Inv u → Inv (engine (unit u)) ∧ P (engine (unit u)) ∧ Q (engine (unit u)) := fun u hu =>
    have ⟨h1, hq, _⟩ := hunit u hu
    have ⟨h2, hp, hkeep⟩ := hengine _ h1
    ⟨h2, hp, hkeep hq⟩
  unfold State.engineAndUnit
  split
  · split
    · exact engineFirst _ hfree
    · exact unitFirst _ hfree
  · exact engineFirst _ hs

/-- Leaving RUNNING, the engine and the unit act as owners do, and withdraw the claims of the open window (R99, R147). -/
theorem State.ownersLeave_acts (hne : s.run.state ≠ .running) (o : LineOutcome) : s.OwnersAct (s.ownersLeave o) ∧
    (s.ClaimsTied → (s.ownersLeave o).line.reqClaim = none ∧ (s.ownersLeave o).line.roundClaim = false) := by
  obtain ⟨hacts, hreq, hround⟩ := State.engineAndUnit_ensures (s := s) (Inv := s.OwnersAct)
    (P := fun u => s.ClaimsTied → u.line.reqClaim = none) (Q := fun u => s.ClaimsTied → u.line.roundClaim = false)
    (engine := State.reqLeave) (unit := fun u => u.endSweeping o)
    (s.disc.isSweeping && s.req.head.isRetryWaiting) (.of_eq rfl rfl) (.refl s)
    (fun u hu =>
      have hne' : u.run.state ≠ .running := by rwa [hu.run]
      ⟨hu.trans u.reqLeave_acts, fun htied => State.reqLeave_request hne' (hu.tied htied),
        fun hq htied => (u.reqLeave_acts.places hne').round (hq htied)⟩)
    (fun u hu =>
      have hne' : u.run.state ≠ .running := by rwa [hu.run]
      ⟨hu.trans (u.endSweeping_acts o), fun htied => State.endSweeping_round o (hu.tied htied),
        fun hp htied => ((u.endSweeping_acts o).places hne').request (hp htied)⟩)
  exact ⟨hacts, fun htied => ⟨hreq htied, hround htied⟩⟩

/-- The owners leave RUNNING for a run state in which nothing waits for a grant. -/
theorem State.ownersLeave_noClaims (hne : s.run.state ≠ .running) (htied : s.ClaimsTied)
    (hbeacon : s.line.beaconPending = false) (hsched : s.line.schedClaim = none) (o : LineOutcome) :
    (s.ownersLeave o).NoClaims := by
  obtain ⟨hacts, hwithdrawn⟩ := State.ownersLeave_acts hne o
  obtain ⟨hreq, hround⟩ := hwithdrawn htied
  exact ⟨(hacts.places hne).beacon hbeacon, (hacts.places hne).sched hsched, hreq, hround⟩

/-- Once OFF is entered, the laws hold of whatever the owners leave with nothing in flight and no claim placed. -/
theorem State.RunLawful.enterOff (h : s.RunLawful) (hst : s.run.state ≠ .init) (hacts : s.enterOff.OwnersAct t)
    (hrecord : t.line.record = none) (hsched : t.line.schedClaim = none) (hreq : t.line.reqClaim = none)
    (hround : t.line.roundClaim = false) : t.RunLawful := by
  have hrun := hacts.run
  have hoff : s.enterOff.run.state = .off := rfl
  refine State.runLawful_off ?_ ?_ ?_ ?_ hrecord ⟨?_, hsched, hreq, hround⟩
  · rw [hrun]; rfl
  · rw [hacts.timer]; rfl
  · rw [hrun]; rfl
  · rw [hrun]; exact h.not_asserted hst
  · exact (hacts.places (by simp [hoff])).beacon rfl

theorem State.enterOff_tied (h : s.ClaimsTied) : s.enterOff.ClaimsTied := ⟨h.round, h.request⟩

/-! ### Echo errors and frames (R63, R64, R70 to R72, R158) -/

theorem State.discFaultSeen_roundFaulted (s : State) : s.discFaultSeen.disc.roundFaulted := by
  unfold State.discFaultSeen
  split
  · exact rfl
  · next hd => rw [hd]; exact trivial
  · next hd => rw [hd]; exact trivial

theorem State.discFaultSeen_waiting (s : State) :
    s.discFaultSeen.waiting = { s.waiting with disc := s.discFaultSeen.disc } := by
  unfold State.discFaultSeen
  split <;> rfl

/-- Run Control, the timer and the record as FAULTED is entered (R58, R158). -/
theorem State.enterFaulted_stage (s : State) :
    s.enterFaulted.stage = { s.stage with run := { s.run with state := .faulted }, timer := s.timer.close } ∧
      s.enterFaulted.line.record = s.line.record := by
  obtain ⟨n, hleave⟩ :=
    State.ownersLeave_engineFrame (((s.setRunState .faulted).setTimer s.timer.close).setBeaconPending false).schedLeave .lineError
  have hframe := hleave.trans (State.discFaultSeen_engineFrame _)
  exact ⟨hframe.stage_eq, hframe.record_eq⟩

/-- FAULTED is entered with the record in its closing gap, the claims withdrawn and a round's fault seen (R102, R158). -/
theorem State.RunLawful.enterFaulted (h : s.RunLawful) (hst : s.run.state = .running ∨ s.run.state = .draining)
    (hrecord : ∀ r, s.line.record = some r → r.runsOut) : s.enterFaulted.RunLawful := by
  obtain ⟨hstage, hkept⟩ := s.enterFaulted_stage
  have hrun : s.enterFaulted.run = { s.run with state := .faulted } := congrArg Stage.run hstage
  have hclaims : s.enterFaulted.NoClaims := by
    obtain ⟨hbeacon, hsched, hreq, hround⟩ := State.ownersLeave_noClaims
      (s := (((s.setRunState .faulted).setTimer s.timer.close).setBeaconPending false).schedLeave) RunState.noConfusion
      ⟨h.roundClaim, h.reqClaim⟩ rfl rfl .lineError
    have hwait := State.discFaultSeen_waiting (State.ownersLeave
      (((s.setRunState .faulted).setTimer s.timer.close).setBeaconPending false).schedLeave .lineError)
    simp only [State.waiting, Waiting.mk.injEq] at hwait
    obtain ⟨-, hbeacon', hsched', hreq', hround', -, -⟩ := hwait
    exact ⟨hbeacon'.trans hbeacon, hsched'.trans hsched, hreq'.trans hreq, hround'.trans hround⟩
  refine State.runLawful_faulted ?_ ?_ ?_ ?_ (by rwa [hkept]) hclaims (State.discFaultSeen_roundFaulted _)
  · rw [hrun]
  · rw [show s.enterFaulted.timer = s.timer.close from congrArg Stage.timer hstage]; rfl
  · rw [hrun]; exact h.check_idle (by rcases hst with hst | hst <;> simp [hst])
  · rw [hrun]; exact h.not_asserted (by rcases hst with hst | hst <;> simp [hst])

theorem State.RunLawful.echoError (h : s.RunLawful) (hrecord : ∀ r, s.line.record = some r → r.runsOut) :
    s.echoError.RunLawful := by
  have hcounted : ∀ n m, ({ s with line := { s.line with echoCount := n, lineErrors := m } } : State).RunLawful :=
    fun n m => ⟨h.window, h.quiet, h.runsOut, h.draining, h.claims, h.roundClaim, h.reqClaim, h.fault, h.check, h.reset⟩
  unfold State.echoError
  dsimp only
  split
  · next hfault => exact (hcounted _ _).enterFaulted hfault.2 hrecord
  · exact hcounted _ _

theorem State.RunLawful.failFrame (h : s.RunLawful) (hst : s.run.state = .running ∨ s.run.state = .draining) (r : Record)
    (offGrid : Bool) : (s.failFrame r offGrid).RunLawful := by
  have hecho := (h.setRecord_some hst { r.close (some .lineError) offGrid with after := .finish }).echoError fun r' hr' => by
    cases hr'
    exact ⟨rfl, rfl⟩
  unfold State.failFrame
  dsimp only
  split
  · exact (State.discLineError_acts _).runLawful hecho
  · exact hecho

theorem State.RunLawful.driveFrame (h : s.RunLawful) (hst : s.run.state = .running ∨ s.run.state = .draining) (r : Record) :
    (s.driveFrame r).RunLawful := by
  unfold State.driveFrame
  split
  · exact h.setRecord_some hst _
  · exact h.failFrame hst r false

/-! ### Grants (R65) -/

/-- A grant in RUNNING: its claim goes, and the frame is driven. -/
theorem State.RunLawful.grant (h : s.RunLawful) (hrun : s.run.state = .running) (g : Grant) : (s.grant g).RunLawful := by
  have hdrive : ∀ {u : State} (r : Record), u.run = s.run → u.timer = s.timer → u.ClaimsTied → (u.driveFrame r).RunLawful := by
    intro u r hu htimer htied
    refine State.RunLawful.driveFrame (State.runLawful_running ?_ ?_ ?_ ?_ htied) (.inl (by rwa [hu])) r
    · rwa [hu]
    · rw [htimer]; exact h.window.2 (by rw [hrun]; rfl)
    · rw [hu]; exact h.check_idle (by simp [hrun])
    · rw [hu]; exact h.not_asserted (by simp [hrun])
  cases g with
  | beacon => exact hdrive _ rfl rfl ⟨h.roundClaim, h.reqClaim⟩
  | sched c =>
    unfold State.grant
    dsimp only
    split
    · exact hdrive _ rfl rfl ⟨h.roundClaim, h.reqClaim⟩
    · exact h
  | request c => exact hdrive _ rfl rfl ⟨h.roundClaim, fun hreq => by cases hreq⟩
  | round =>
    unfold State.grant
    dsimp only
    refine hdrive _ ?_ ?_ ?_
    · unfold State.discGranted; split <;> rfl
    · unfold State.discGranted; split <;> rfl
    · unfold State.discGranted
      split
      · exact ⟨fun hround => (by cases hround), h.reqClaim⟩
      · exact ⟨fun hround => (by cases hround), h.reqClaim⟩
      · exact ⟨fun hround => (by cases hround), h.reqClaim⟩

theorem State.setBoundary_acts (s : State) (b : Bool) : s.OwnersAct (s.setBoundary b) := .of_eq rfl rfl

theorem State.RunLawful.decideGrant (h : s.RunLawful) : s.decideGrant.RunLawful := by
  have hb := (s.setBoundary_acts false).runLawful h
  unfold State.decideGrant
  split
  · exact h
  refine (State.chooseAtBoundary_acts _).runLawful ?_
  unfold State.grantDecided
  split
  · next hmay =>
    split
    · refine hb.grant ?_ _
      simp only [State.mayGrant, Bool.and_eq_true, beq_iff_eq] at hmay
      exact hmay.1.1
    · exact hb
  · exact hb

/-! ### The phases of a transaction (R63, R70 to R74) -/

theorem State.RunLawful.onRecord {may : Record → Bool} {event : Record → State} (h : s.RunLawful)
    (hevent : ∀ r, s.line.record = some r → may r = true → (event r).RunLawful) : (s.onRecord may event).RunLawful := by
  unfold State.onRecord
  split
  · next r hr =>
    split
    · next hmay => exact hevent r hr hmay
    · exact h
  · exact h

/-- An event that ends a phase other than the closing gap occurs in RUNNING or DRAINING. -/
theorem State.RunLawful.onPhase {may : Record → Bool} {event : Record → State} {p : Phase} (h : s.RunLawful)
    (hp : p ≠ .closing) (hmay : ∀ r, may r = true → r.phase = p)
    (hevent : ∀ r, s.run.state = .running ∨ s.run.state = .draining → (event r).RunLawful) :
    (s.onRecord may event).RunLawful :=
  h.onRecord fun r hr hm => hevent r (h.windowed hr fun hout => hp ((hmay r hm).symm.trans hout.1))

theorem State.RunLawful.echoMismatch (h : s.RunLawful) (lrx : Level) : (s.echoMismatch lrx).RunLawful :=
  h.onPhase (p := .sending) (by decide) (fun r hmay => by simp_all) fun r hst => h.failFrame hst r true

theorem State.setEchoCount_runLawful (h : s.RunLawful) (n : Nat) : (s.setEchoCount n).RunLawful :=
  ⟨h.window, h.quiet, h.runsOut, h.draining, h.claims, h.roundClaim, h.reqClaim, h.fault, h.check, h.reset⟩

theorem State.RunLawful.frameSentClean (h : s.RunLawful) : s.frameSentClean.RunLawful :=
  h.onPhase (p := .sending) (by decide) (fun r hmay => by simp_all) fun r hst => by
    unfold State.frameSent
    dsimp only
    split
    · exact (State.setEchoCount_runLawful h 0).setRecord_some hst _
    · exact (State.setEchoCount_runLawful h 0).setRecord_some hst _

theorem State.RunLawful.classify (h : s.RunLawful) (hst : s.run.state = .running ∨ s.run.state = .draining) (r : Record)
    (o : LineOutcome) (reply : Reply) : (s.classify r o reply).RunLawful := by
  unfold State.classify
  dsimp only
  split
  · exact (State.discAssignOutcome_acts _ o).runLawful (h.setRecord_some hst _)
  · exact h.setRecord_some hst _

theorem State.RunLawful.responseWaitExpiry (h : s.RunLawful) : s.responseWaitExpiry.RunLawful :=
  h.onPhase (p := .waiting) (by decide) (fun r hmay => by simp_all) fun _ hst => h.classify hst _ _ _

theorem State.RunLawful.replyLeadingEdge (h : s.RunLawful) (onGrid : Bool) : (s.replyLeadingEdge onGrid).RunLawful :=
  h.onPhase (p := .waiting) (by decide) (fun r hmay => by simp_all) fun _ hst => h.setRecord_some hst _

theorem State.RunLawful.replyReceptionEnd (h : s.RunLawful) (bytes : List RxByte) (onGrid : Bool) :
    (s.replyReceptionEnd bytes onGrid).RunLawful :=
  h.onPhase (p := .receiving) (by decide) (fun r hmay => by simp_all) fun _ hst => h.classify hst _ _ _

theorem State.RunLawful.replyDeadline (h : s.RunLawful) : s.replyDeadline.RunLawful :=
  h.onPhase (p := .receiving) (by decide) (fun r hmay => by simp_all) fun _ hst => h.classify hst _ _ _

theorem State.RunLawful.checkSlotsEnd (h : s.RunLawful) : s.checkSlotsEnd.RunLawful :=
  h.onPhase (p := .receiving) (by decide) (fun r hmay => by simp_all) fun r hst =>
    have hacts := s.discDecide_acts r.heardIdentity r.heardCheck
    (hacts.runLawful h).setRecord_some (by rwa [hacts.run]) _

/-! ### The end of a transaction (R76, R95, R156) -/

/-- A transaction has ended and its owner has acted: DRAINING goes to OFF, every other run state stays (R156). -/
theorem State.RunLawful.lineFree (h : s.RunLawful) (hacts : (s.setRecord none).OwnersAct u) : u.lineFree.RunLawful := by
  have hrun : u.run = s.run := hacts.run
  by_cases hst : s.run.state = .draining
  · have hclaims : u.NoClaims := hacts.noClaims (by simp [hst]) <|
      let ⟨hbeacon, hsched, hreq, hround⟩ := h.claims (by simp [hst])
      ⟨hbeacon, hsched, hreq, hround⟩
    have hrecord : u.line.record = none := hacts.record_none rfl
    have hoff : u.enterOff.schedLeave.run.state = .off := rfl
    have hleave := State.reqLeave_acts u.enterOff.schedLeave
    have hnone : u.enterOff.schedLeave.NoClaims := ⟨rfl, rfl, hclaims.request, hclaims.round⟩
    have heq : u.lineFree = u.enterOff.schedLeave.reqLeave := if_pos (by rwa [hrun])
    rw [heq]
    refine State.runLawful_off ?_ ?_ ?_ ?_ ?_ (hleave.noClaims (by simp [hoff]) hnone)
    · rw [hleave.run]; rfl
    · rw [hleave.timer]; rfl
    · rw [hleave.run]; rfl
    · rw [hleave.run]
      exact (congrArg RunControl.resetAsserted hrun).trans (h.not_asserted (by simp [hst]))
    · exact hleave.record_none hrecord
  · rw [State.lineFree_of_not_draining _ (by rwa [hrun])]
    exact hacts.runLawful (h.setRecord_none hst)

/-- A round that ends outside RUNNING ends its sweep: it is DRAINING, or the round has seen the fault (R95, R102). -/
theorem State.RunLawful.roundEndsSweep (h : s.RunLawful) {r : Record} (hr : s.line.record = some r)
    (hne : s.run.state ≠ .running) : s.RoundEndsSweep := by
  intro sw rd hd
  have hquiet : ¬ (s.run.state = .init ∨ s.run.state = .off) := fun hq => by
    rw [h.quiet hq] at hr
    cases hr
  by_cases hdrain : s.run.state = .draining
  · exact .inr (.inr hdrain)
  · have hfault := h.fault (by cases hst : s.run.state <;> simp [hst, RunState.faulty] at hquiet hne hdrain ⊢)
    rw [hd] at hfault
    exact .inl hfault

/-- What is handed to the unit as a round ends leaves its sweep to end. -/
theorem State.discLineError_endsSweep (h : s.RoundEndsSweep) : s.discLineError.RoundEndsSweep := by
  unfold State.discLineError
  split
  · next sw rd hd =>
    intro sw' rd' hd'
    cases hd'
    have hends := h sw rd hd
    split
    · exact hends
    · exact hends
  · exact h
  · exact h

theorem State.RunLawful.finishRound_acts (h : s.RunLawful) {r : Record} (hr : s.line.record = some r) :
    (s.setRecord none).OwnersAct (s.finishRound r) := by
  have hends : (s.setRecord none).run.state = .running ∨ (s.setRecord none).RoundEndsSweep := by
    by_cases hrun : s.run.state = .running
    · exact .inl hrun
    · exact .inr (h.roundEndsSweep hr hrun)
  unfold State.finishRound
  dsimp only
  split
  · have hacts := (s.setRecord none).discLineError_acts
    exact hacts.trans (State.discRoundEnd_acts (hends.imp (by rw [hacts.run]; exact id) State.discLineError_endsSweep))
  · exact State.discRoundEnd_acts hends

theorem State.roundClaimSeen_acts (s : State) : s.OwnersAct s.roundClaimSeen := by
  unfold State.roundClaimSeen
  split
  · split
    · exact .of_eq rfl rfl
    · exact .of_eq rfl rfl
  · exact .refl s

theorem State.RunLawful.gapEnd (h : s.RunLawful) {r : Record} (hr : s.line.record = some r) : (s.gapEnd r).RunLawful := by
  have hgoesOn : r.after ≠ .finish → s.run.state = .running ∨ s.run.state = .draining := fun hafter =>
    h.windowed hr fun hout => hafter hout.2
  unfold State.gapEnd
  split
  · exact h.lineFree (.refl _)
  · exact h.lineFree (s.deliver_acts _ _)
  · split
    · next hafter => exact (State.discPhase_acts _ _).runLawful (h.setRecord_some (hgoesOn (by simp [hafter])) _)
    · next hafter => exact h.driveFrame (hgoesOn (by simp [hafter])) _
    · next hafter => exact h.driveFrame (hgoesOn (by simp [hafter])) _
    · next hafter => exact h.driveFrame (hgoesOn (by simp [hafter])) _
    · exact (State.roundClaimSeen_acts _).runLawful (h.lineFree (h.finishRound_acts hr))

theorem State.RunLawful.closingGapEnd (h : s.RunLawful) : s.closingGapEnd.RunLawful :=
  h.onRecord fun r hr _ => by
    split
    · exact ((s.setBoundary_acts false).runLawful h).gapEnd hr
    · exact h.gapEnd hr

/-! ### The end of a bit time (R64) -/

/-- A line check under way stays under way. -/
theorem CheckProgress.tick_idle (c : CheckProgress) (mid : Level) : c.tick mid = .idle ↔ c = .idle := by
  unfold CheckProgress.tick
  cases c <;> simp
  split <;> simp

theorem CycleTimer.tick_window (t : CycleTimer) : t.tick.window = t.window :=
  show ({ t.tick with tickCount := t.tickCount, prescaler := t.prescaler } : CycleTimer).window = _ by rw [t.tick_frame]

theorem State.RunLawful.counted (h : s.RunLawful) (mid fin : Level) : (s.counted mid fin).RunLawful := by
  have hrecord : ∀ r', (s.counted mid fin).line.record = some r' → ∃ r, s.line.record = some r ∧ r.tick fin = r' :=
    fun r' hr' => Option.map_eq_some_iff.1 hr'
  have hnone : s.line.record = none → (s.counted mid fin).line.record = none := fun hr => by simp [State.counted, hr]
  have hsome : s.line.record.isSome = true → (s.counted mid fin).line.record.isSome = true := fun hr => by
    simpa [State.counted] using hr
  refine ⟨?_, fun hq => hnone (h.quiet hq), fun hf r' hr' => ?_, fun hd => hsome (h.draining hd), h.claims, h.roundClaim,
    h.reqClaim, h.fault, ?_, h.reset⟩
  · rw [show (s.counted mid fin).timer.window = s.timer.window from s.timer.tick_window]
    exact h.window
  · obtain ⟨r, hr, rfl⟩ := hrecord r' hr'
    exact h.runsOut hf r hr
  · exact (not_congr (s.run.check.tick_idle mid)).trans h.check

theorem State.RunLawful.bitTimeEnd (h : s.RunLawful) (mid fin : Level) : (s.bitTimeEnd mid fin).RunLawful := by
  unfold State.bitTimeEnd
  split
  · rw [State.tick_eq]
    exact ((State.slotPhase_acts _).trans (State.boundaryChoice_acts _)).runLawful (h.counted mid fin)
  · exact h

/-! ### The ends of the windows and the cycle start (R52, R53) -/

/-- The timer's part of a cycle start and the beacon's (R53, R67). -/
def State.cycleOpened (s : State) : State :=
  (s.setTimer s.timer.cycleStart).setBeaconPending (s.line.beaconPending || s.run.state == .running)

theorem State.cycleStart_acts (s : State) : s.cycleOpened.OwnersAct s.cycleStart := by
  have howners : ∀ v : State, v.OwnersAct (v.schedCycleStart.discCycleStart s.timer.pendingPresent) := fun v =>
    v.schedCycleStart_acts.trans (State.discCycleStart_acts _ _)
  unfold State.cycleStart
  dsimp only
  refine .trans ?_ (howners _)
  split
  · next hrun =>
    change s.run.state = .running at hrun
    exact .of_eq rfl (by simp [State.waiting, State.cycleOpened, State.raiseCyc, hrun])
  · next hrun =>
    change ¬ s.run.state = .running at hrun
    exact .of_eq (by rfl) (by simp [State.waiting, State.cycleOpened, State.raiseCyc, hrun])

theorem CycleTimer.cycleStart_window (t : CycleTimer) : t.cycleStart.window = .sched := t.started_cycleStart.window

theorem State.RunLawful.openExpiry (h : s.RunLawful) : s.openExpiry.RunLawful := by
  unfold State.openExpiry
  split
  · next hopen =>
    refine s.cycleStart_acts.runLawful ?_
    have hwindowed := h.window.1 (by simp [hopen.1])
    refine ⟨iff_of_true (by simp [State.cycleOpened, CycleTimer.cycleStart_window]) hwindowed, h.quiet, h.runsOut, h.draining,
      fun hne => ?_, h.roundClaim, h.reqClaim, h.fault, h.check, h.reset⟩
    obtain ⟨hbeacon, hclaims⟩ := h.claims hne
    change s.run.state ≠ .running at hne
    exact ⟨by simp [State.cycleOpened, hbeacon, hne], hclaims⟩
  · exact h

theorem State.RunLawful.schedExpiry (h : s.RunLawful) : s.schedExpiry.RunLawful := by
  unfold State.schedExpiry
  split
  · next hsched =>
    refine (State.reqWindowOpens_acts _).runLawful ?_
    have hwindowed := h.window.1 (by simp [hsched.1])
    refine ⟨iff_of_true Window.noConfusion hwindowed, h.quiet, h.runsOut, h.draining, fun hne => ?_, h.roundClaim,
      h.reqClaim, h.fault, h.check, h.reset⟩
    obtain ⟨-, -, hreq, hround⟩ := h.claims hne
    exact ⟨rfl, rfl, hreq, hround⟩
  · exact h

/-! ### Run Control (R151 to R160) -/

theorem State.resetBlocks_runLawful (s : State) (asserted : Bool) : (s.resetBlocks asserted).RunLawful :=
  have h := State.runLawful_reset
  ⟨h.window, h.quiet, h.runsOut, h.draining, h.claims, h.roundClaim, h.reqClaim, h.fault, h.check, fun _ => rfl⟩

theorem State.resetPinAssert_runLawful (s : State) (duringRead : Bool) : (s.resetPinAssert duringRead).RunLawful := by
  unfold State.resetPinAssert
  dsimp only
  split
  · refine State.OwnersAct.runLawful ?_ (s.resetBlocks_runLawful true)
    exact .of_eq rfl rfl
  · exact s.resetBlocks_runLawful true

theorem State.RunLawful.resetPinRelease (h : s.RunLawful) : s.resetPinRelease.RunLawful := by
  unfold State.resetPinRelease
  split
  · exact s.resetBlocks_runLawful false
  · exact h

theorem State.RunLawful.initEnd (h : s.RunLawful) : s.initEnd.RunLawful := by
  unfold State.initEnd
  split
  · next hinit =>
    have hclaims := h.noClaims (by simp [hinit.1])
    refine State.runLawful_off rfl ?_ (h.check_idle (by simp [hinit.1])) hinit.2 (h.quiet (.inl hinit.1))
      ⟨hclaims.beacon, hclaims.sched, hclaims.request, hclaims.round⟩
    exact h.window_none (by rw [hinit.1]; rfl)
  · exact h

/-- RUNNING is entered with a cycle start, the line check over. -/
theorem State.enterRunning_runLawful (htied : s.ClaimsTied) (hcheck : s.run.check = .idle)
    (hreset : s.run.resetAsserted = false) : s.enterRunning.RunLawful := by
  have hacts := (State.cycleStart_acts ((s.setRunState .running).setEchoCount 0)).trans (State.setBoundary_acts _ true)
  refine hacts.takeUp.runLawful (State.runLawful_running rfl ?_ hcheck hreset ⟨htied.round, htied.request⟩)
  simp [State.cycleOpened, CycleTimer.cycleStart_window]

theorem State.RunLawful.start (h : s.RunLawful) : s.start.RunLawful := by
  unfold State.start
  split
  · next hoff =>
    exact (State.setResult_acts _ _ _).runLawful
      (State.enterRunning_runLawful h.tied (h.check_idle (by simp [hoff])) (h.not_asserted (by simp [hoff])))
  · exact (s.setResult_acts _ _).runLawful h

theorem State.RunLawful.lineCheckClear (h : s.RunLawful) : s.lineCheckClear.RunLawful := by
  unfold State.lineCheckClear
  split
  · next hclear => exact State.enterRunning_runLawful ⟨h.roundClaim, h.reqClaim⟩ rfl (h.not_asserted (by simp [hclear.1]))
  · exact h

theorem State.RunLawful.lineCheckStuck (h : s.RunLawful) : s.lineCheckStuck.RunLawful := by
  unfold State.lineCheckStuck
  split
  · next hstuck =>
    have hfaulty : s.run.state.faulty = true := by rw [hstuck.1]; rfl
    have hclaims := h.noClaims (by simp [hstuck.1])
    refine State.runLawful_faulted rfl ?_ rfl (h.not_asserted (by simp [hstuck.1])) (h.runsOut hfaulty)
      ⟨hclaims.beacon, hclaims.sched, hclaims.request, hclaims.round⟩ (h.fault hfaulty)
    exact h.window_none (by rw [hstuck.1]; rfl)
  · exact h

theorem State.RunLawful.resume (h : s.RunLawful) : s.resume.RunLawful := by
  unfold State.resume
  split
  · next hfaulted =>
    have hfaulty : s.run.state.faulty = true := by rw [hfaulted]; rfl
    refine (State.setResult_acts _ _ _).runLawful ?_
    constructor
    case window => exact iff_of_false (not_not.2 (h.window_none (by rw [hfaulted]; rfl))) Bool.false_ne_true
    case quiet => rintro (hq | hq) <;> cases hq
    case runsOut => exact fun _ => h.runsOut hfaulty
    case draining => exact fun hd => by cases hd
    case claims => exact fun _ => h.claims (by simp [hfaulted])
    case roundClaim => exact h.roundClaim
    case reqClaim => exact h.reqClaim
    case fault => exact fun _ => h.fault hfaulty
    case check => exact iff_of_true CheckProgress.noConfusion rfl
    case reset =>
      intro ha
      rw [h.not_asserted (by simp [hfaulted])] at ha
      cases ha
  · exact (s.setResult_acts _ _).runLawful h

/-- STOP with a transaction in flight: DRAINING waits for its end (R155). -/
theorem State.RunLawful.enterDraining (h : s.RunLawful) (hrun : s.run.state = .running)
    (hrecord : s.line.record.isSome = true) : (s.enterDraining.schedWithdraw.ownersLeave .stopped).RunLawful := by
  have hdraining : s.enterDraining.schedWithdraw.run.state = .draining := rfl
  obtain ⟨hacts, -⟩ := State.ownersLeave_acts (s := s.enterDraining.schedWithdraw) (by simp [hdraining]) .stopped
  have hclaims := State.ownersLeave_noClaims (s := s.enterDraining.schedWithdraw) (by simp [hdraining])
    ⟨h.roundClaim, h.reqClaim⟩ rfl rfl .stopped
  refine State.runLawful_draining ?_ ?_ ?_ ?_ ?_ hclaims
  · rw [hacts.run]; rfl
  · rw [hacts.timer]; exact h.window.2 (by rw [hrun]; rfl)
  · rw [hacts.run]; exact h.check_idle (by simp [hrun])
  · rw [hacts.run]; exact h.not_asserted (by simp [hrun])
  · rw [hacts.record_eq (by simp [hdraining])]; exact hrecord

/-- STOP with nothing in flight (R155). -/
theorem State.RunLawful.stopRunning (h : s.RunLawful) (hrun : s.run.state = .running) (hrecord : s.line.record = none) :
    (s.enterOff.schedLeave.ownersLeave .stopped).RunLawful := by
  have hoff : s.enterOff.schedLeave.run.state = .off := rfl
  obtain ⟨hacts, hwithdrawn⟩ := State.ownersLeave_acts (s := s.enterOff.schedLeave) (by simp [hoff]) .stopped
  obtain ⟨hreq, hround⟩ := hwithdrawn ⟨h.roundClaim, h.reqClaim⟩
  exact h.enterOff (by simp [hrun]) ((State.schedLeave_acts _).trans hacts) (hacts.record_none hrecord)
    ((hacts.places (by simp [hoff])).sched rfl) hreq hround

/-- STOP in FAULTED or CHECKING cuts a closing gap that still runs (R155). -/
theorem State.RunLawful.stopFaulty (h : s.RunLawful) (hst : s.run.state.faulty = true) :
    s.enterOff.cutLine.schedLeave.RunLawful := by
  obtain ⟨hcut, hrecord⟩ := State.cutLine_acts (s := s.enterOff) rfl
  have hacts := hcut.trans s.enterOff.cutLine.schedLeave_acts
  have hoff : s.enterOff.run.state ≠ .running := RunState.noConfusion
  have hclaims := h.noClaims (by rintro hrun; rw [hrun] at hst; cases hst)
  refine h.enterOff (by rintro hinit; rw [hinit] at hst; cases hst) hacts hrecord rfl ?_ ?_
  · exact (hacts.places hoff).request hclaims.request
  · exact (hacts.places hoff).round hclaims.round

theorem State.RunLawful.stop (h : s.RunLawful) : s.stop.RunLawful := by
  unfold State.stop
  split
  · next hrun =>
    split
    · next hrecord => exact (State.setResult_acts _ _ _).runLawful (h.enterDraining hrun hrecord)
    · next hrecord => exact (State.setResult_acts _ _ _).runLawful (h.stopRunning hrun (by simpa using hrecord))
  · next hst => exact (State.setResult_acts _ _ _).runLawful (h.stopFaulty (by rw [hst]; rfl))
  · next hst => exact (State.setResult_acts _ _ _).runLawful (h.stopFaulty (by rw [hst]; rfl))
  all_goals exact (s.setResult_acts _ _).runLawful h

/-- The two parts of HALT, in either order: the line is cut by one of them, and each withdraws its claim (R100, R147, R157). -/
theorem State.haltParts_acts {s : State} (hoff : s.run.state = .off) (both round : Bool) :
    let t := s.engineAndUnit both (fun u => (if round then u else u.cutLine).reqLeave)
      (fun u => (if round then u.cutLine else u).endSweeping .aborted)
    s.OwnersAct t ∧ t.line.record = none ∧
      (s.ClaimsTied → t.line.reqClaim = none ∧ t.line.roundClaim = false) := by
  have hcut : ∀ {u : State} (c : Bool), s.OwnersAct u → u.OwnersAct (if c then u.cutLine else u) ∧
      (c = true → (if c then u.cutLine else u).line.record = none) := fun {u} c hu => by
    cases c
    · exact ⟨.refl u, fun h => by cases h⟩
    · obtain ⟨hacts, hnone⟩ := State.cutLine_acts (s := u) (by rwa [hu.run])
      exact ⟨hacts, fun _ => hnone⟩
  have hne : ∀ {u : State}, s.OwnersAct u → u.run.state ≠ .running := fun hu => by rw [hu.run]; simp [hoff]
  have hparts := State.engineAndUnit_ensures (s := s) (Inv := s.OwnersAct)
    (P := fun u => (s.ClaimsTied → u.line.reqClaim = none) ∧ (round = false → u.line.record = none))
    (Q := fun u => (s.ClaimsTied → u.line.roundClaim = false) ∧ (round = true → u.line.record = none))
    (engine := fun u => (if round then u else u.cutLine).reqLeave)
    (unit := fun u => (if round then u.cutLine else u).endSweeping .aborted) both (.of_eq rfl rfl) (.refl s)
  obtain ⟨hacts, ⟨hreq, hengine⟩, hround, hunit⟩ := hparts
    (fun u hu => by
      obtain ⟨hv, hgone⟩ := hcut (!round) hu
      have hif : (if round then u else u.cutLine) = if !round then u.cutLine else u := by cases round <;> rfl
      simp only [hif]
      have hall := hv.trans (State.reqLeave_acts _)
      exact ⟨hu.trans hall,
        ⟨fun htied => State.reqLeave_request (hne (hu.trans hv)) ((hu.trans hv).tied htied),
          fun hr => (State.reqLeave_acts _).record_none (hgone (by rw [hr]; rfl))⟩,
        fun hq => ⟨fun htied => (hall.places (hne hu)).round (hq.1 htied), fun hr => hall.record_none (hq.2 hr)⟩⟩)
    (fun u hu => by
      obtain ⟨hv, hgone⟩ := hcut round hu
      have hall := hv.trans (State.endSweeping_acts _ .aborted)
      exact ⟨hu.trans hall,
        ⟨fun htied => State.endSweeping_round _ ((hu.trans hv).tied htied),
          fun hr => (State.endSweeping_acts _ _).record_none (hgone hr)⟩,
        fun hp => ⟨fun htied => (hall.places (hne hu)).request (hp.1 htied), fun hr => hall.record_none (hp.2 hr)⟩⟩)
  refine ⟨hacts, ?_, fun htied => ⟨hreq htied, hround htied⟩⟩
  cases round
  · exact hengine rfl
  · exact hunit rfl

theorem State.RunLawful.halt (h : s.RunLawful) : s.halt.RunLawful := by
  have hparts : ∀ both : Bool, s.run.state ≠ .init → ((s.enterOff.engineAndUnit both
      (fun u => (if s.roundOnLine then u else u.cutLine).reqLeave)
      (fun u => (if s.roundOnLine then u.cutLine else u).endSweeping .aborted)).schedLeave.setResult .done 0).RunLawful := by
    intro both hinit
    obtain ⟨hacts, hrecord, hwithdrawn⟩ := State.haltParts_acts (s := s.enterOff) rfl both s.roundOnLine
    obtain ⟨hreq, hround⟩ := hwithdrawn (State.enterOff_tied h.tied)
    exact (State.setResult_acts _ _ _).runLawful
      (h.enterOff hinit (hacts.trans (State.schedLeave_acts _)) hrecord rfl hreq hround)
  unfold State.halt
  dsimp only
  split
  case h_5 | h_6 => exact (s.setResult_acts _ _).runLawful h
  all_goals
    next hst => exact hparts _ (by simp [hst])

end Sys2Proof.Machine
end

section
/-! PROOFS. Every step is an act of the owners of claims, followed by one change of run state, window or record; so every step keeps
the laws of the run states, and the ranges of the timer and of the line's counts (R44, R45, R47, R56, R62, R64, R67, R71). -/

namespace Sys2Proof.Machine

open Sys2Proof

variable {s t u : State}

/-! ### What one command does -/

/-- The commands and events that change the run state, a timing set, a window or the record in flight. -/
inductive State.Performs (u : State) : State → Prop
  | nothing : Performs u u
  | resetPinAssert (duringRead : Bool) : Performs u (u.resetPinAssert duringRead)
  | resetPinRelease : Performs u u.resetPinRelease
  | reset : Performs u u.resetCommand
  | initEnd : Performs u u.initEnd
  | start : Performs u u.start
  | stop : Performs u u.stop
  | halt : Performs u u.halt
  | resume : Performs u u.resume
  | lineCheckStuck : Performs u u.lineCheckStuck
  | lineCheckClear : Performs u u.lineCheckClear
  | timingLoad : Performs u u.timingLoad
  | openExpiry : Performs u u.openExpiry
  | schedExpiry : Performs u u.schedExpiry
  | decideGrant : Performs u u.decideGrant
  | echoMismatch (lrx : Level) : Performs u (u.echoMismatch lrx)
  | frameSentClean : Performs u u.frameSentClean
  | responseWaitExpiry : Performs u u.responseWaitExpiry
  | replyLeadingEdge (onGrid : Bool) : Performs u (u.replyLeadingEdge onGrid)
  | replyReceptionEnd (bytes : List RxByte) (onGrid : Bool) : Performs u (u.replyReceptionEnd bytes onGrid)
  | replyDeadline : Performs u u.replyDeadline
  | checkSlotsEnd : Performs u u.checkSlotsEnd
  | closingGapEnd : Performs u u.closingGapEnd
  | bitTimeEnd (mid fin : Level) : Performs u (u.bitTimeEnd mid fin)

/-- The owners of claims act, and then one change is made. -/
def State.StepsTo (s t : State) : Prop := ∃ u, s.OwnersAct u ∧ u.Performs t

theorem State.StepsTo.performs (h : s.Performs t) : s.StepsTo t := ⟨s, .refl s, h⟩

theorem State.StepsTo.acts (h : s.OwnersAct t) : s.StepsTo t := ⟨t, h, .nothing⟩

theorem State.command_stepsTo {owner : State → State} (h : ∀ u : State, u.StepsTo (owner u)) (s : State) (code : Word) :
    s.StepsTo (s.command code owner) := by
  unfold State.command
  split
  · exact .performs .nothing
  split
  · exact .acts (s.setResult_acts _ _)
  · obtain ⟨u, hacts, hperforms⟩ := h (s.setCmd code)
    exact ⟨u, .trans (t := s.setCmd code) (.of_eq rfl rfl) hacts, hperforms⟩

theorem lookup_owner_stepsTo {table : List (Nat × (State → State))} (h : ∀ p ∈ table, ∀ u : State, u.StepsTo (p.2 u))
    (n : Nat) (u : State) : u.StepsTo (((table.lookup n).getD State.refuseUnknown) u) := by
  induction table with
  | nil => exact .acts (u.setResult_acts _ _)
  | cons p table ih =>
    obtain ⟨hp, ht⟩ := List.forall_mem_cons.1 h
    rw [List.lookup_cons]
    split
    · exact hp u
    · exact ih ht

theorem commandTable_owner_stepsTo : ∀ p ∈ commandTable, ∀ u : State, u.StepsTo (p.2 u) := by
  simp only [commandTable, List.forall_mem_cons]
  exact ⟨fun _ => .performs .reset, fun _ => .performs .start, fun _ => .performs .stop, fun _ => .performs .halt,
    fun _ => .performs .resume, fun _ => .performs .timingLoad, fun u => .acts u.threshLoad_acts, fun u => .acts u.pin_acts,
    fun u => .acts u.unpin_acts, fun u => .acts u.clearConflict_acts, fun u => .acts u.popChange_acts,
    fun u => .acts u.stationSnap_acts, fun u => .acts u.schedSet_acts, fun u => .acts u.schedEnable_acts,
    fun u => .acts u.schedDisable_acts, fun u => .acts u.schedSnap_acts, fun u => .acts u.take_acts,
    fun u => .acts u.put_acts, fun u => .acts u.submit_acts, fun u => .acts u.cancel_acts,
    fun u => .acts u.popCompletion_acts, List.forall_mem_nil _⟩

theorem State.commandWrite_stepsTo (s : State) (code : Word) : s.StepsTo (s.commandWrite code) :=
  State.command_stepsTo (lookup_owner_stepsTo commandTable_owner_stepsTo code.toNat) s code

theorem State.registerWrite_stepsTo (s : State) (addr : BitVec 5) (v : Word) : s.StepsTo (s.registerWrite addr v) := by
  unfold State.registerWrite
  split
  case h_1 => exact .acts (s.eventWrite_acts v)
  case h_2 => exact .acts (s.enableWrite_acts v)
  case h_3 => exact s.commandWrite_stepsTo v
  case h_4 => exact .acts (s.winSelWrite_acts v)
  case h_5 => exact .acts (s.winIndexWrite_acts v)
  case h_6 => exact .acts (s.winDataWrite_acts v)
  case h_7 => exact .acts (s.busWrite_acts (.of_eq rfl rfl))

theorem exec_stepsTo (c : Instr) (h : exec c s = .next t) : s.StepsTo t := by
  cases c with
  | resetPinAssert duringRead => cases h; exact .performs (.resetPinAssert duringRead)
  | resetPinRelease => cases h; exact .performs .resetPinRelease
  | initEnd => cases h; exact .performs .initEnd
  | reset => cases h; exact State.command_stepsTo (fun _ => .performs .reset) s _
  | start => cases h; exact State.command_stepsTo (fun _ => .performs .start) s _
  | stop => cases h; exact State.command_stepsTo (fun _ => .performs .stop) s _
  | halt => cases h; exact State.command_stepsTo (fun _ => .performs .halt) s _
  | resume => cases h; exact State.command_stepsTo (fun _ => .performs .resume) s _
  | lineCheckStuck => cases h; exact .performs .lineCheckStuck
  | lineCheckClear => cases h; exact .performs .lineCheckClear
  | timingLoad => cases h; exact State.command_stepsTo (fun _ => .performs .timingLoad) s _
  | threshLoad => cases h; exact State.command_stepsTo (fun u => .acts u.threshLoad_acts) s _
  | pin => cases h; exact State.command_stepsTo (fun u => .acts u.pin_acts) s _
  | unpin => cases h; exact State.command_stepsTo (fun u => .acts u.unpin_acts) s _
  | clearConflict => cases h; exact State.command_stepsTo (fun u => .acts u.clearConflict_acts) s _
  | popChange => cases h; exact State.command_stepsTo (fun u => .acts u.popChange_acts) s _
  | stationSnap => cases h; exact State.command_stepsTo (fun u => .acts u.stationSnap_acts) s _
  | schedSet => cases h; exact State.command_stepsTo (fun u => .acts u.schedSet_acts) s _
  | schedEnable => cases h; exact State.command_stepsTo (fun u => .acts u.schedEnable_acts) s _
  | schedDisable => cases h; exact State.command_stepsTo (fun u => .acts u.schedDisable_acts) s _
  | schedSnap => cases h; exact State.command_stepsTo (fun u => .acts u.schedSnap_acts) s _
  | take => cases h; exact State.command_stepsTo (fun u => .acts u.take_acts) s _
  | put => cases h; exact State.command_stepsTo (fun u => .acts u.put_acts) s _
  | submit => cases h; exact State.command_stepsTo (fun u => .acts u.submit_acts) s _
  | cancel => cases h; exact State.command_stepsTo (fun u => .acts u.cancel_acts) s _
  | popCompletion => cases h; exact State.command_stepsTo (fun u => .acts u.popCompletion_acts) s _
  | unknownCommand code => cases h; exact s.commandWrite_stepsTo code
  | winSelWrite value => cases h; exact .acts (s.winSelWrite_acts value)
  | winIndexWrite value => cases h; exact .acts (s.winIndexWrite_acts value)
  | winDataRead => cases h; exact .acts s.winDataRead_acts
  | winDataWrite value => cases h; exact .acts (s.winDataWrite_acts value)
  | eventWrite value => cases h; exact .acts (s.eventWrite_acts value)
  | enableWrite value => cases h; exact .acts (s.enableWrite_acts value)
  | registerWrite addr value => cases h; exact s.registerWrite_stepsTo addr value
  | cycleStart => cases h; exact .performs .openExpiry
  | schedWindowEnd => cases h; exact .performs .schedExpiry
  | grantDecision => cases h; exact .performs .decideGrant
  | echoMismatch lrx => cases h; exact .performs (.echoMismatch lrx)
  | frameSentClean => cases h; exact .performs .frameSentClean
  | responseWaitExpiry => cases h; exact .performs .responseWaitExpiry
  | replyReceptionEnd bytes onGrid => cases h; exact .performs (.replyReceptionEnd bytes onGrid)
  | replyDeadline => cases h; exact .performs .replyDeadline
  | checkSlotsEnd => cases h; exact .performs .checkSlotsEnd
  | closingGapEnd => cases h; exact .performs .closingGapEnd
  | replyLeadingEdge onGrid => cases h; exact .performs (.replyLeadingEdge onGrid)
  | bitTimeEnd mid fin => cases h; exact .performs (.bitTimeEnd mid fin)

/-- The queue of waiting commands is no part of what the owners and the line hold. -/
theorem step_stepsTo (h : step s = .next t) : s.StepsTo t := by
  cases hp : s.pending with
  | nil =>
    rw [step_of_pending_nil hp] at h
    cases h
    exact .performs .nothing
  | cons c rest =>
    have hexec : exec c (s.setPending rest) = .next t := by
      unfold step at h
      rwa [hp] at h
    obtain ⟨u, hacts, hperforms⟩ := exec_stepsTo c hexec
    exact ⟨u, .trans (t := s.setPending rest) (.of_eq rfl rfl) hacts, hperforms⟩

/-! ### The laws of the run states -/

theorem State.Performs.runLawful (h : u.Performs t) (hu : u.RunLawful) : t.RunLawful := by
  cases h with
  | nothing => exact hu
  | resetPinAssert duringRead => exact u.resetPinAssert_runLawful duringRead
  | resetPinRelease => exact hu.resetPinRelease
  | reset => exact u.resetBlocks_runLawful false
  | initEnd => exact hu.initEnd
  | start => exact hu.start
  | stop => exact hu.stop
  | halt => exact hu.halt
  | resume => exact hu.resume
  | lineCheckStuck => exact hu.lineCheckStuck
  | lineCheckClear => exact hu.lineCheckClear
  | timingLoad =>
    unfold State.timingLoad
    dsimp only
    split
    · exact (u.setResult_acts _ _).runLawful hu
    · exact ⟨hu.window, hu.quiet, hu.runsOut, hu.draining, hu.claims, hu.roundClaim, hu.reqClaim, hu.fault, hu.check, hu.reset⟩
  | openExpiry => exact hu.openExpiry
  | schedExpiry => exact hu.schedExpiry
  | decideGrant => exact hu.decideGrant
  | echoMismatch lrx => exact hu.echoMismatch lrx
  | frameSentClean => exact hu.frameSentClean
  | responseWaitExpiry => exact hu.responseWaitExpiry
  | replyLeadingEdge onGrid => exact hu.replyLeadingEdge onGrid
  | replyReceptionEnd bytes onGrid => exact hu.replyReceptionEnd bytes onGrid
  | replyDeadline => exact hu.replyDeadline
  | checkSlotsEnd => exact hu.checkSlotsEnd
  | closingGapEnd => exact hu.closingGapEnd
  | bitTimeEnd mid fin => exact hu.bitTimeEnd mid fin

/-- Settles O15: the owners' acts keep the laws (`State.OwnersAct.runLawful`), and so does each change. -/
theorem runStateLaw : Obligations.RunStateLaw := fun _ _ hlawful hstep =>
  let ⟨_, hacts, hperforms⟩ := step_stepsTo hstep
  hperforms.runLawful (hacts.runLawful hlawful)

end Sys2Proof.Machine
end

section
/-! PROOFS. The timing sets stay valid and the counts of the timer and of the line in their ranges (R44, R45, R47, R64, R71). -/

namespace Sys2Proof.Machine

open Sys2Proof

variable {s t u : State}

/-! ### The timer (R44, R45, R47) -/

/-- The timer lawful and the line's counts in range. -/
structure Stage.Lawful (g : Stage) : Prop where
  timer  : g.timer.Lawful
  counts : g.idleRun ≤ 4 ∧ g.echoCount ≤ 8 ∧ g.lineErrors ≤ 65535

theorem State.stage_lawful_iff : s.stage.Lawful ↔ s.timer.Lawful ∧ s.LineCountsLawful :=
  ⟨fun h => ⟨h.timer, h.counts⟩, fun h => ⟨h.1, h.2⟩⟩

theorem CycleTimer.Lawful.close {t : CycleTimer} (h : t.Lawful) : t.close.Lawful :=
  ⟨h.inForce, h.pending, h.same, fun hw => absurd rfl hw⟩

theorem TimingSet.Valid.tickdiv_pos {g : TimingSet} (h : g.Valid) : 1 ≤ g.tickdiv :=
  let ⟨_, ⟨hpos, _⟩, _⟩ := h
  hpos

theorem CycleTimer.Lawful.openOpen {t : CycleTimer} (h : t.Lawful) : t.openOpen.Lawful :=
  ⟨h.inForce, h.pending, h.same, fun _ => .inr ⟨h.inForce.tickdiv_pos, Nat.le_refl _⟩⟩

theorem CycleTimer.Lawful.openSched {t : CycleTimer} (h : t.Lawful) : t.openSched.Lawful :=
  ⟨h.inForce, h.pending, h.same, fun _ => .inr ⟨h.inForce.tickdiv_pos, Nat.le_refl _⟩⟩

/-- A cycle start brings a valid pending set into force (R50). -/
theorem CycleTimer.Lawful.cycleStart {t : CycleTimer} (h : t.Lawful) : t.cycleStart.Lawful := by
  have hstarted := t.started_cycleStart
  obtain ⟨hpending, hflag⟩ := hstarted.pending
  have hforce : t.cycleStart.inForce.Valid := by
    rw [hstarted.inForce]
    split
    · exact h.pending
    · exact h.inForce
  refine ⟨hforce, by rw [hpending]; exact h.pending, fun _ => ?_, fun _ => .inr ?_⟩
  · rw [hpending, hstarted.inForce]
    split
    · rfl
    · next hclear => exact h.same (by simpa using hclear)
  · rw [hstarted.counts.2]
    exact ⟨hforce.tickdiv_pos, Nat.le_refl _⟩

theorem CycleTimer.Lawful.tick {t : CycleTimer} (h : t.Lawful) : t.tick.Lawful := by
  unfold CycleTimer.tick
  split
  · exact h
  next hrunning =>
  obtain ⟨hw, htick⟩ := not_or.1 hrunning
  have hcounts := (h.counts hw).resolve_left htick
  split
  · exact ⟨h.inForce, h.pending, h.same, fun _ => .inr (by dsimp only; omega)⟩
  split
  · exact ⟨h.inForce, h.pending, h.same, fun _ => .inl rfl⟩
  · exact ⟨h.inForce, h.pending, h.same, fun _ => .inr ⟨h.inForce.tickdiv_pos, Nat.le_refl _⟩⟩

/-- The set TIMING_LOAD makes pending has passed its seven checks (R48). -/
theorem TimingSet.valid_of_loadRefusal {g : TimingSet} {bitdiv : Nat} {st : RunState}
    (h : g.loadRefusal bitdiv st = none) : g.Valid := by
  simp only [TimingSet.loadRefusal, ite_eq_iff, reduceCtorEq, and_false, false_or, not_not, not_lt] at h
  obtain ⟨hbit, htick, hsched, hopen, hresp, hbits, -⟩ := h
  exact ⟨hbit, htick, hsched, hopen, hresp, hbits⟩

theorem CycleTimer.Lawful.loaded {t : CycleTimer} {g : TimingSet} (h : t.Lawful) (hg : g.Valid) :
    CycleTimer.Lawful { t with pendingSet := g, pendingPresent := true } :=
  ⟨h.inForce, hg, fun hclear => (by cases hclear), h.counts⟩

/-! ### The line's counts (R64, R71) -/

theorem State.OwnersAct.stage_lawful (h : s.OwnersAct t) (hs : s.stage.Lawful) : t.stage.Lawful := h.stage ▸ hs

theorem State.EngineFrame.stage_lawful (h : s.EngineFrame t) (hs : s.stage.Lawful) : t.stage.Lawful := h.stage_eq ▸ hs

theorem State.echoError_stage_lawful (h : s.stage.Lawful) : s.echoError.stage.Lawful := by
  obtain ⟨hidle, -, -⟩ := h.counts
  unfold State.echoError
  dsimp only
  split
  · rw [(State.enterFaulted_stage _).1]
    exact ⟨h.timer.close, hidle, satSucc_le _ _, satSucc_le _ _⟩
  · exact ⟨h.timer, hidle, satSucc_le _ _, satSucc_le _ _⟩

theorem State.failFrame_stage_lawful (h : s.stage.Lawful) (r : Record) (offGrid : Bool) :
    (s.failFrame r offGrid).stage.Lawful := by
  have hecho := State.echoError_stage_lawful
    (s := s.setRecord (some { r.close (some .lineError) offGrid with after := .finish })) h
  unfold State.failFrame
  dsimp only
  split
  · exact (State.discLineError_acts _).stage_lawful hecho
  · exact hecho

theorem State.driveFrame_stage_lawful (h : s.stage.Lawful) (r : Record) : (s.driveFrame r).stage.Lawful := by
  unfold State.driveFrame
  split
  · exact h
  · exact State.failFrame_stage_lawful h r false

theorem State.discGranted_stage (s : State) : s.discGranted.stage = s.stage := by
  unfold State.discGranted
  split <;> rfl

theorem State.grant_stage_lawful (h : s.stage.Lawful) (g : Grant) : (s.grant g).stage.Lawful := by
  have hdrive : ∀ {v : State} (r : Record), v.stage = s.stage → (v.driveFrame r).stage.Lawful := fun r hv =>
    State.driveFrame_stage_lawful (hv ▸ h) r
  cases g with
  | beacon => exact hdrive _ rfl
  | sched c =>
    unfold State.grant
    dsimp only
    split
    · exact hdrive _ rfl
    · exact h
  | request c => exact hdrive _ rfl
  | round => exact hdrive _ (State.discGranted_stage _)

theorem State.decideGrant_stage_lawful (h : s.stage.Lawful) : s.decideGrant.stage.Lawful := by
  unfold State.decideGrant
  split
  · exact h
  refine (State.chooseAtBoundary_acts _).stage_lawful ?_
  unfold State.grantDecided
  split
  · split
    · exact State.grant_stage_lawful (s := s.setBoundary false) h _
    · exact h
  · exact h

theorem State.onRecord_stage_lawful {may : Record → Bool} {event : Record → State} (h : s.stage.Lawful)
    (hevent : ∀ r, (event r).stage.Lawful) : (s.onRecord may event).stage.Lawful := by
  unfold State.onRecord
  split
  · split
    · exact hevent _
    · exact h
  · exact h

theorem State.frameSent_stage_lawful (h : s.stage.Lawful) (r : Record) : (s.frameSent r).stage.Lawful := by
  obtain ⟨hidle, -, herrors⟩ := h.counts
  unfold State.frameSent
  dsimp only
  split
  · exact ⟨h.timer, hidle, Nat.zero_le _, herrors⟩
  · exact ⟨h.timer, hidle, Nat.zero_le _, herrors⟩

theorem State.classify_stage_lawful (h : s.stage.Lawful) (r : Record) (o : LineOutcome) (reply : Reply) :
    (s.classify r o reply).stage.Lawful := by
  unfold State.classify
  dsimp only
  split
  · exact (State.discAssignOutcome_acts _ o).stage_lawful h
  · exact h

/-- Entry to OFF stops the timer, and no count changes (R58). -/
theorem State.enterOff_stage_lawful (h : s.stage.Lawful) : s.enterOff.stage.Lawful := ⟨h.timer.close, h.counts⟩

theorem State.lineFree_stage_lawful (h : s.stage.Lawful) : s.lineFree.stage.Lawful := by
  unfold State.lineFree
  split
  · exact ((State.schedLeave_acts _).trans (State.reqLeave_acts _)).stage_lawful (State.enterOff_stage_lawful h)
  · exact h

theorem State.finishRound_stage_lawful (h : s.stage.Lawful) (r : Record) : (s.finishRound r).stage.Lawful := by
  unfold State.finishRound
  dsimp only
  refine (State.discRoundEnd_engineFrame _).stage_lawful ?_
  split
  · exact (State.discLineError_acts _).stage_lawful h
  · exact h

theorem State.gapEnd_stage_lawful (h : s.stage.Lawful) (r : Record) : (s.gapEnd r).stage.Lawful := by
  unfold State.gapEnd
  split
  · exact State.lineFree_stage_lawful h
  · exact State.lineFree_stage_lawful ((s.deliver_acts _ _).stage_lawful h)
  · split
    · exact (State.discPhase_acts _ _).stage_lawful h
    · exact State.driveFrame_stage_lawful h _
    · exact State.driveFrame_stage_lawful h _
    · exact State.driveFrame_stage_lawful h _
    · exact (State.roundClaimSeen_acts _).stage_lawful (State.lineFree_stage_lawful (State.finishRound_stage_lawful h r))

theorem State.tick_stage_lawful (h : s.stage.Lawful) (mid fin : Level) : (s.tick mid fin).stage.Lawful := by
  obtain ⟨-, hecho, herrors⟩ := h.counts
  rw [State.stage_lawful_iff]
  unfold State.LineCountsLawful
  rw [State.tick_timer, State.tick_line_idleRun, State.tick_line_echoCount, State.tick_line_lineErrors]
  refine ⟨h.timer.tick, ?_, hecho, herrors⟩
  split
  · exact Nat.min_le_right _ _
  · exact Nat.zero_le _

/-! ### Run Control -/

theorem State.resetBlocks_stage_lawful (s : State) (asserted : Bool) : (s.resetBlocks asserted).stage.Lawful :=
  ⟨State.timerLawful_reset, Nat.zero_le _, Nat.zero_le _, Nat.zero_le _⟩

theorem State.cycleStart_stage_lawful (h : s.stage.Lawful) : s.cycleStart.stage.Lawful :=
  s.cycleStart_acts.stage_lawful ⟨h.timer.cycleStart, h.counts⟩

theorem State.enterRunning_stage_lawful (h : s.stage.Lawful) : s.enterRunning.stage.Lawful := by
  obtain ⟨hidle, -, herrors⟩ := h.counts
  refine (State.takeUp_acts _).stage_lawful (State.cycleStart_stage_lawful (s := (s.setRunState .running).setEchoCount 0) ?_)
  exact ⟨h.timer, hidle, Nat.zero_le _, herrors⟩

theorem State.stop_stage_lawful (h : s.stage.Lawful) : s.stop.stage.Lawful := by
  have hoff := State.enterOff_stage_lawful h
  have hcut : s.enterOff.cutLine.schedLeave.stage.Lawful :=
    (State.schedLeave_acts _).stage_lawful ((State.cutLine_acts (s := s.enterOff) rfl).1.stage_lawful hoff)
  unfold State.stop
  split
  · split
    · exact (State.ownersLeave_acts (s := s.enterDraining.schedWithdraw) RunState.noConfusion _).1.stage_lawful
        ⟨h.timer, h.counts⟩
    · exact (State.ownersLeave_acts (s := s.enterOff.schedLeave) RunState.noConfusion _).1.stage_lawful hoff
  · exact hcut
  · exact hcut
  all_goals exact h

theorem State.halt_stage_lawful (h : s.stage.Lawful) : s.halt.stage.Lawful := by
  unfold State.halt
  dsimp only
  split
  case h_5 | h_6 => exact h
  all_goals
    exact (State.schedLeave_acts _).stage_lawful
      ((State.haltParts_acts (s := s.enterOff) rfl _ s.roundOnLine).1.stage_lawful (State.enterOff_stage_lawful h))

theorem State.Performs.stage_lawful (h : u.Performs t) (hu : u.stage.Lawful) : t.stage.Lawful := by
  cases h with
  | nothing => exact hu
  | resetPinAssert duringRead =>
    unfold State.resetPinAssert
    dsimp only
    split
    · exact u.resetBlocks_stage_lawful true
    · exact u.resetBlocks_stage_lawful true
  | resetPinRelease =>
    unfold State.resetPinRelease
    split
    · exact u.resetBlocks_stage_lawful false
    · exact hu
  | reset => exact u.resetBlocks_stage_lawful false
  | initEnd =>
    unfold State.initEnd
    split
    · exact ⟨⟨hu.timer.inForce, hu.timer.pending, hu.timer.same, hu.timer.counts⟩, hu.counts⟩
    · exact hu
  | start =>
    unfold State.start
    split
    · exact (State.setResult_acts _ _ _).stage_lawful (State.enterRunning_stage_lawful hu)
    · exact hu
  | stop => exact State.stop_stage_lawful hu
  | halt => exact State.halt_stage_lawful hu
  | resume =>
    unfold State.resume
    split
    · exact ⟨hu.timer, hu.counts⟩
    · exact hu
  | lineCheckStuck =>
    unfold State.lineCheckStuck
    split
    · exact ⟨hu.timer, hu.counts⟩
    · exact hu
  | lineCheckClear =>
    unfold State.lineCheckClear
    split
    · exact State.enterRunning_stage_lawful ⟨hu.timer, hu.counts⟩
    · exact hu
  | timingLoad =>
    unfold State.timingLoad
    dsimp only
    split
    · exact hu
    · next hnone => exact ⟨hu.timer.loaded (TimingSet.valid_of_loadRefusal hnone), hu.counts⟩
  | openExpiry =>
    unfold State.openExpiry
    split
    · exact State.cycleStart_stage_lawful hu
    · exact hu
  | schedExpiry =>
    unfold State.schedExpiry
    split
    · exact (State.reqWindowOpens_acts _).stage_lawful ⟨hu.timer.openOpen, hu.counts⟩
    · exact hu
  | decideGrant => exact State.decideGrant_stage_lawful hu
  | echoMismatch lrx => exact State.onRecord_stage_lawful hu fun r => State.failFrame_stage_lawful hu r true
  | frameSentClean => exact State.onRecord_stage_lawful hu fun r => State.frameSent_stage_lawful hu r
  | responseWaitExpiry => exact State.onRecord_stage_lawful hu fun _ => State.classify_stage_lawful hu _ _ _
  | replyLeadingEdge onGrid => exact State.onRecord_stage_lawful hu fun _ => hu
  | replyReceptionEnd bytes onGrid => exact State.onRecord_stage_lawful hu fun _ => State.classify_stage_lawful hu _ _ _
  | replyDeadline => exact State.onRecord_stage_lawful hu fun _ => State.classify_stage_lawful hu _ _ _
  | checkSlotsEnd => exact State.onRecord_stage_lawful hu fun r => (u.discDecide_acts _ _).stage_lawful hu
  | closingGapEnd =>
    refine State.onRecord_stage_lawful hu fun r => ?_
    split
    · exact State.gapEnd_stage_lawful (s := u.setBoundary false) hu r
    · exact State.gapEnd_stage_lawful hu r
  | bitTimeEnd mid fin =>
    unfold State.bitTimeEnd
    split
    · exact State.tick_stage_lawful hu mid fin
    · exact hu

/-- Settles O22: the owners' acts leave the timer and the counts, and each change keeps their laws. -/
theorem timerAndCountsLaw : Obligations.TimerAndCountsLaw := fun _ _ htimer hcounts hstep =>
  let ⟨_, hacts, hperforms⟩ := step_stepsTo hstep
  State.stage_lawful_iff.1 (hperforms.stage_lawful (hacts.stage_lawful (State.stage_lawful_iff.2 ⟨htimer, hcounts⟩)))

end Sys2Proof.Machine
end

section
/-! PROOFS. The commands that check their operands in order: TIMING_LOAD, SCHED_SET, SCHED_ENABLE (R48, R49, R51, R106, R107,
R122). -/

namespace Sys2Proof.Machine

open Sys2Proof

variable {s : State}

/-! ### Checks in order -/

/-- The result of a command: the refusal of the first check that fails, or what it does where none fails (R171). -/
def State.answered (s : State) (refusal : Option (ResultCode × Nat)) (effect : State) : State :=
  match refusal with
  | some (code, val) => s.setResult code val
  | none => effect

theorem State.answered_none (effect : State) : s.answered none effect = effect := rfl

/-- The first check of a chain: the command is refused by it, or the next one decides. -/
theorem State.answered_check {p : Prop} [Decidable p] (code : ResultCode) (val : Nat) (rest : Option (ResultCode × Nat))
    (effect : State) : s.answered (if p then some (code, val) else rest) effect =
      if p then s.setResult code val else s.answered rest effect := by
  split <;> rfl

/-! ### TIMING_LOAD (R48, R49) -/

theorem State.exec_timingLoad (h : s.accepts) : exec .timingLoad s = .next (s.setCmd 0x10).timingLoad :=
  congrArg Host.Outcome.next (State.command_accepted h _ _)

theorem State.timingLoad_eq (s : State) :
    s.timingLoad = s.answered (s.host.stagedTiming.loadRefusal s.timer.inForce.bitdiv s.run.state)
      ((s.setTimer { s.timer with pendingSet := s.host.stagedTiming, pendingPresent := true }).setResult .done 0) := by
  unfold State.timingLoad
  dsimp only
  split
  · next hrefused => rw [hrefused]; rfl
  · next hnone => rw [hnone]; rfl

/-- Settles O16: the checks of the statement are those of `TimingSet.loadRefusal`, in its order. -/
theorem timingLoadChecks : Obligations.TimingLoadChecks := by
  intro s hs h
  rw [State.exec_timingLoad hs, State.timingLoad_eq]
  unfold TimingSet.loadRefusal
  simp only [State.answered_check, State.answered_none]
  rfl

/-! ### SCHED_SET and SCHED_ENABLE (R106, R107, R122) -/

theorem State.exec_schedSet (h : s.accepts) : exec .schedSet s = .next (s.setCmd 0x30).schedSet :=
  congrArg Host.Outcome.next (State.command_accepted h _ _)

theorem State.exec_schedEnable (h : s.accepts) : exec .schedEnable s = .next (s.setCmd 0x31).schedEnable :=
  congrArg Host.Outcome.next (State.command_accepted h _ _)

theorem SchedEntry.enabled_iff (e : SchedEntry) : e.enabled = true ↔
    e.status = .waiting ∨ e.status = .due ∨ e.status = .inFlight ∨ e.status = .held := by
  unfold SchedEntry.enabled
  cases e.status <;> simp

theorem SchedEntry.no_direction_iff (e : SchedEntry) :
    (e.isRead || e.isWrite) = false ↔ ¬ (e.direction = 0 ∨ e.direction = 1) := by
  simp [SchedEntry.isRead, SchedEntry.isWrite]

theorem no_station_iff (a : Nat) : stationAddress a = false ↔ ¬ (1 ≤ a ∧ a ≤ 60) := by
  rw [← stationAddress_iff, Bool.not_eq_true]

theorem State.not_argEntry_iff (s : State) : (!s.argEntry) = true ↔ ¬ s.host.argNat < 32 := by
  simp [State.argEntry]

theorem State.schedEnable_eq (s : State) : s.schedEnable =
    let e := s.entry s.host.argNat
    if !s.argEntry then s.setResult .badArg 0
    else s.answered (e.enableRefusal s.timer.inForce s.timer.pendingSet)
      ((s.setEntry s.host.argNat { e with
        status := .waiting, countdown := e.phase.toNat, attempt := 0, disablePending := false }).setResult .done
          (e.reservation s.rw)) := by
  unfold State.schedEnable
  dsimp only
  split
  · rfl
  · split
    · next hrefused => rw [hrefused]; rfl
    · next hnone => rw [hnone]; rfl

/-- Settles O51: SCHED_SET checks the entry's number and status; the checks of SCHED_ENABLE are those of
`SchedEntry.enableRefusal`, in its order. -/
theorem scheduleEntryConfigured : Obligations.ScheduleEntryConfigured := by
  intro s hs n e stage reserved
  constructor
  · rw [State.exec_schedSet hs]
    unfold State.schedSet
    simp only [State.not_argEntry_iff, SchedEntry.enabled_iff]
    rfl
  · rw [State.exec_schedEnable hs, State.schedEnable_eq]
    unfold SchedEntry.enableRefusal
    simp only [State.not_argEntry_iff, SchedEntry.enabled_iff, SchedEntry.no_direction_iff, no_station_iff,
      State.answered_check, State.answered_none]
    rfl

end Sys2Proof.Machine
end

section
/-! PROOFS. The cycle start and the entry to RUNNING: at the expiry of the open window, by START, after a clear line check (R50, R53,
R55, R57, R60, R67, R81, R85, R110 to R114, R136, R154, R160). -/

namespace Sys2Proof.Machine

open Sys2Proof

variable {s t u v : State}

/-! ### The cycle start (R53) -/

/-- The marks of a cycle start look at the schedule, the Roster and the claim before it, and at the run state, the timer, the schedule
and the claim after it. -/
theorem State.cycleMarks.congr (h : s.cycleMarks t) (hsched : u.sched = s.sched) (hroster : u.roster = s.roster)
    (hclaim : u.line.schedClaim = s.line.schedClaim) (hrun : v.run = t.run) (htimer : v.timer = t.timer)
    (hsched' : v.sched = t.sched) (hclaim' : v.line.schedClaim = t.line.schedClaim) : u.cycleMarks v := by
  have hmarked : ({ u with timer := v.timer }.updateEntries fun _ e =>
        e.atCycleStart v.timer.inForce (u.roster.issuable e.target.toNat)).sched =
      ({ s with timer := t.timer }.updateEntries fun _ e =>
        e.atCycleStart t.timer.inForce (s.roster.issuable e.target.toNat)).sched := by
    simp only [State.updateEntries, hsched, hroster, htimer]
  unfold State.cycleMarks at h ⊢
  dsimp only at h ⊢
  rw [hrun]
  split at h
  · next hrunning =>
    rw [if_pos hrunning]
    exact h.congr hmarked.symm hroster.symm htimer.symm hsched'.symm hclaim'.symm
  · next hrunning =>
    rw [if_neg hrunning]
    refine ⟨fun n => ?_, by rw [hclaim', hclaim]; exact h.2⟩
    rw [State.entry, State.entry, hmarked, hsched']
    exact h.1 n

/-- An IDLE unit does nothing at a cycle start, nor does any unit where no pending set was applied (R85). -/
theorem State.discCycleStart_same {applied : Bool} (h : s.disc = .idle ∨ applied = false) : s.discCycleStart applied = s := by
  unfold State.discCycleStart
  split
  · next hd => simp [h.resolve_left (by simp [hd])]
  · rfl
  · rfl

/-- Where no new window check is due, the unit and the engine stay at a cycle start. -/
theorem State.cycleStart_owners (h : s.disc = .idle ∨ s.timer.pendingPresent = false) :
    s.cycleStart.disc = s.disc ∧ s.cycleStart.req = s.req ∧ s.cycleStart.line.reqClaim = s.line.reqClaim := by
  have key : ∀ v : State, v.disc = s.disc → v.req = s.req → v.line.reqClaim = s.line.reqClaim →
      let w := v.schedCycleStart.discCycleStart s.timer.pendingPresent
      w.disc = s.disc ∧ w.req = s.req ∧ w.line.reqClaim = s.line.reqClaim := by
    intro v hdisc hreq hclaim w
    have hw : w = v.schedCycleStart :=
      State.discCycleStart_same (h.imp_left fun hidle => by rw [State.schedCycleStart_frame]; exact hdisc.trans hidle)
    rw [hw, State.schedCycleStart_frame]
    exact ⟨hdisc, hreq, hclaim⟩
  unfold State.cycleStart
  dsimp only
  split <;> exact key _ rfl rfl rfl

/-- Settles O17: the frame of the cycle start, the marks of the schedule, and the unit that stays (`State.cycleStart_owners`). -/
theorem openExpiryStartsCycle : Obligations.OpenExpiryStartsCycle := by
  intro s hwindow hticks
  have hexec : exec .cycleStart s = .next s.cycleStart :=
    congrArg Host.Outcome.next (if_pos ⟨hwindow, by simp [CycleTimer.expired, hwindow, hticks]⟩)
  have hframe := s.cycleStart_frame
  have htimer : s.cycleStart.timer = s.timer.cycleStart := by rw [hframe]
  refine ⟨s.cycleStart, hexec, ?_, ?_, ?_, ?_, s.cycleStart_marks, ?_, ?_, ?_, fun hnone => ?_, ?_, ?_, ?_⟩
  · rw [htimer]; exact s.timer.started_cycleStart
  · rw [hframe]
  · rw [hframe]
  · rw [hframe]
  · rw [hframe]
  · rw [hframe]
  · rw [htimer, hframe]
  · obtain ⟨hdisc, hreq, -⟩ := State.cycleStart_owners (s := s) (.inr hnone)
    exact ⟨hdisc, hreq⟩
  · rw [hframe]
  · rw [hframe]
  · rw [hframe]

/-! ### The entry to RUNNING (R154, R160) -/

/-- The state in which the engine takes up its head, as RUNNING is entered (R136). -/
def State.runningOpened (s : State) : State :=
  (((s.setRunState .running).setEchoCount 0).cycleStart).setBoundary true

theorem State.enterRunning_eq (s : State) : s.enterRunning = s.runningOpened.takeUp := rfl

theorem State.runningOpened_frame (s : State) : s.runningOpened = { s with
    run := { s.run with state := .running }
    timer := s.timer.cycleStart
    line := { s.line with
      beaconPending := true
      echoCount := 0
      boundary := true
      schedClaim := s.runningOpened.line.schedClaim
      reqClaim := s.runningOpened.line.reqClaim
      roundClaim := s.runningOpened.line.roundClaim }
    disc := s.runningOpened.disc
    req := s.runningOpened.req
    sched := { s.sched with entries := s.runningOpened.sched.entries }
    host := { s.host with sticky := { s.host.sticky with
      cyc := true
      starve := s.host.sticky.starve || s.sched.entries.cells.any fun e => e.starves s.timer.cycleStart.inForce } } } := by
  have hbeacon : (s.line.beaconPending || RunState.running == .running) = true := by simp
  unfold State.runningOpened
  rw [State.cycleStart_frame, ← hbeacon]
  rfl

theorem State.enterRunning_frame (s : State) : s.enterRunning = { s with
    run := { s.run with state := .running }
    timer := s.timer.cycleStart
    line := { s.line with
      beaconPending := true
      echoCount := 0
      boundary := true
      schedClaim := s.enterRunning.line.schedClaim
      reqClaim := s.enterRunning.line.reqClaim
      roundClaim := s.enterRunning.line.roundClaim }
    disc := s.enterRunning.disc
    req := s.enterRunning.req
    sched := { s.sched with entries := s.enterRunning.sched.entries }
    host := { s.host with sticky := { s.host.sticky with
      cyc := true
      starve := s.host.sticky.starve || s.sched.entries.cells.any fun e => e.starves s.timer.cycleStart.inForce } } } := by
  rw [State.enterRunning_eq, State.takeUp_engineFrame, State.runningOpened_frame]

/-- The schedule is marked and the choice made as RUNNING is entered. -/
theorem State.enterRunning_marks (s : State) : s.cycleMarks s.enterRunning := by
  refine (State.cycleStart_marks ((s.setRunState .running).setEchoCount 0)).congr rfl rfl rfl ?_ ?_ ?_ ?_
  · exact State.takeUp_run _
  · exact State.takeUp_timer _
  · exact State.takeUp_sched _
  · exact State.takeUp_line_schedClaim _

/-- With an IDLE unit the engine finds its records as they were. -/
theorem State.runningOpened_owners (h : s.disc = .idle) :
    s.runningOpened.disc = .idle ∧ s.runningOpened.req = s.req ∧ s.runningOpened.line.reqClaim = s.line.reqClaim := by
  obtain ⟨hdisc, hreq, hclaim⟩ := State.cycleStart_owners (s := (s.setRunState .running).setEchoCount 0) (.inl h)
  exact ⟨hdisc.trans h, hreq, hclaim⟩

theorem State.enterRunning_empty (h : s.disc = .idle) (hq : s.req.queue = []) :
    s.enterRunning.disc = .idle ∧ s.enterRunning.req = s.req ∧ s.enterRunning.line.reqClaim = s.line.reqClaim := by
  obtain ⟨hdisc, hreq, hclaim⟩ := State.runningOpened_owners h
  rw [State.enterRunning_eq, State.takeUp_empty _ (by rw [hreq, hq])]
  exact ⟨hdisc, hreq, hclaim⟩

/-- With an IDLE unit a head that passes the head checks is CLAIMED as RUNNING is entered (R136, R138). -/
theorem State.enterRunning_claim {q : Request} {behind : List Request} (h : s.disc = .idle)
    (hq : s.req.queue = q :: behind) (hhead : s.req.head = .untaken)
    (hroom : s.req.completions.length + s.req.reservations < 16) (hkind : q.kind ≠ .discover)
    (hpasses : q.targetPasses s.roster = true)
    (hfits : requestReservation q.kind q.length s.enterRunning.rw ≤ s.enterRunning.timer.inForce.openBits) :
    s.enterRunning.line.reqClaim = some (q.claim 1 s.roster) ∧
      s.enterRunning.req = { s.req with head := .claimed, reservations := s.req.reservations + 1 } := by
  obtain ⟨-, hreq, -⟩ := State.runningOpened_owners h
  have hroster : s.runningOpened.roster = s.roster := by rw [State.runningOpened_frame]
  have hrun : s.runningOpened.run.state = .running := by rw [State.runningOpened_frame]
  have hlong : s.runningOpened.tooLong q = false := by
    unfold State.rw at hfits
    rw [State.enterRunning_eq, State.takeUp_timer] at hfits
    exact decide_eq_false (Nat.not_lt.2 hfits)
  rw [State.enterRunning_eq, State.takeUp_claim _ (by rw [hreq, hq]) (by simp [State.mayTakeUp, hrun, hreq, hhead, hroom])
    hkind (by rw [hroster]; exact hpasses) hlong, hroster, hreq]
  exact ⟨rfl, rfl⟩

theorem State.exec_start (h : s.run.resetAsserted = false) (hoff : s.run.state = .off) :
    exec .start s = .next ((s.setCmd 0x02).enterRunning.setResult .done 0) := by
  have haccepts : s.accepts := ⟨h, by simp [hoff]⟩
  have hstart : (s.setCmd 0x02).start = (s.setCmd 0x02).enterRunning.setResult .done 0 := if_pos hoff
  rw [← hstart]
  exact congrArg Host.Outcome.next (State.command_accepted haccepts _ _)

/-- Settles O8: START enters RUNNING by `State.enterRunning`, whose frame, marks and take-up are stated above. -/
theorem startEntersRunning : Obligations.StartEntersRunning := by
  intro s hreset hoff
  refine ⟨_, State.exec_start hreset hoff, ?_⟩
  have hframe := (s.setCmd 0x02).enterRunning_frame
  have htimer : (s.setCmd 0x02).enterRunning.timer = s.timer.cycleStart := by rw [hframe]; rfl
  have hmarks := (s.setCmd 0x02).enterRunning_marks
  generalize ht : (s.setCmd 0x02).enterRunning = t at hframe htimer hmarks
  refine ⟨?_, ?_, ?_, ?_, ?_, ?_, ?_, ?_, ?_, ?_, ?_, ?_, ?_, ?_, ?_, ?_, ?_⟩
  · rw [State.setResult_run, hframe]; rfl
  · rw [State.setResult_timer, htimer]; exact s.timer.started_cycleStart
  · rw [State.setResult_roster, hframe]; rfl
  · rw [State.setResult_sched, hframe]; rfl
  · exact hmarks.congr rfl rfl rfl rfl rfl rfl rfl
  · rw [State.setResult_line, hframe]; rfl
  · rw [State.setResult_line, hframe]
  · rw [State.setResult_line, hframe]
  · rw [State.setResult_line, hframe]; rfl
  · rw [State.setResult_line, hframe]; rfl
  · rw [State.setResult_line, hframe]; rfl
  · intro hidle hq
    rw [State.setResult_disc, State.setResult_req, State.setResult_line, ← ht]
    exact State.enterRunning_empty (s := s.setCmd 0x02) hidle hq
  · intro q behind hidle hq hhead hroom hkind hpasses hfits
    rw [State.setResult_req, State.setResult_line, ← ht]
    rw [← ht] at hfits
    exact State.enterRunning_claim (s := s.setCmd 0x02) hidle hq hhead hroom hkind hpasses hfits
  · rw [State.setResult_host, State.setResult_timer, htimer, hframe]; rfl
  · rw [State.setResult_dataBus, hframe]; rfl
  · rw [State.setResult_freeIndex, hframe]; rfl
  · rw [State.setResult_pending, hframe]; rfl

/-- Settles O13: a clear check enters RUNNING as START does, with the check's result kept. -/
theorem clearCheckRuns : Obligations.ClearCheckRuns := by
  intro s n hst hcheck hn
  generalize hu : ({ s with run := { s.run with check := .idle, lineCheck := .clear } } : State).raiseCheckDone = u
  have hexec : exec .lineCheckClear s = .next u.enterRunning := by
    rw [← hu]
    exact congrArg Host.Outcome.next (if_pos ⟨hst, by simp [CheckProgress.isClear, hcheck, hn]⟩)
  have hframe := u.enterRunning_frame
  have htimer : u.enterRunning.timer = s.timer.cycleStart := by rw [hframe, ← hu]; rfl
  refine ⟨_, hexec, ?_, ?_, ?_, ?_, ?_, ?_, ?_, ?_, ?_, ?_, ?_, ?_, ?_, ?_⟩
  · rw [hframe, ← hu]; rfl
  · rw [htimer]; exact s.timer.started_cycleStart
  · rw [hframe, ← hu]; rfl
  · rw [hframe, ← hu]; rfl
  · refine u.enterRunning_marks.congr ?_ ?_ ?_ rfl rfl rfl rfl
    all_goals rw [← hu]; rfl
  · rw [hframe, ← hu]; rfl
  · rw [hframe]
  · rw [hframe]
  · rw [hframe, ← hu]; rfl
  · intro hidle hq
    have howners := State.enterRunning_empty (s := u) (by rw [← hu]; exact hidle) (by rw [← hu]; exact hq)
    rw [← hu] at howners ⊢
    exact howners
  · rw [htimer, hframe, ← hu]; rfl
  · rw [hframe, ← hu]; rfl
  · rw [hframe, ← hu]; rfl
  · rw [hframe, ← hu]; rfl

end Sys2Proof.Machine
end

section
/-! PROOFS. The end of the scheduled window: the open window opens, and the head is tested again (R52, R67, R118, R139). -/

namespace Sys2Proof.Machine

open Sys2Proof

variable {s : State} {q : Request} {behind : List Request}

/-! ### The head completes (R144) -/

/-- A head that is alone in the queue completes, and nothing is taken up behind it. -/
theorem State.finishHead_single (hq : s.req.queue = [q]) (o : LineOutcome) (n : Nat) (reply : Reply) :
    s.finishHead o n reply = { s with
      line := { s.line with reqClaim := none }
      req := { s.req with
        queue := [], head := .untaken, completions := s.req.completions ++ [q.completion o n reply]
        reservations := s.req.reservations - 1 } } := by
  have hcomplete : (s.setReqClaim none).completeHead o n reply = { s with
      line := { s.line with reqClaim := none }
      req := { s.req with
        queue := [], head := .untaken, completions := s.req.completions ++ [q.completion o n reply]
        reservations := s.req.reservations - 1 } } := by
    simp only [State.completeHead, State.setReqClaim, hq, State.writeCompletion]
  rw [State.finishHead, hcomplete]
  exact State.takeUp_empty _ rfl

/-- A head completes; what is taken up behind it only shortens the queue and adds completions. -/
theorem State.finishHead_extends (hq : s.req.queue = q :: behind) (o : LineOutcome) (n : Nat) (reply : Reply) :
    s.req.completions ++ [q.completion o n reply] <+: (s.finishHead o n reply).req.completions ∧
      (s.finishHead o n reply).req.queue <:+ behind := by
  obtain ⟨-, hqueue, hcompletions⟩ := ((s.setReqClaim none).completeHead o n reply).takeUp_frame
  have hcomplete : ((s.setReqClaim none).completeHead o n reply).req = { s.req with
      queue := behind, head := .untaken, completions := s.req.completions ++ [q.completion o n reply]
      reservations := s.req.reservations - 1 } := by
    simp only [State.completeHead, State.setReqClaim, hq, State.writeCompletion]
  rw [hcomplete] at hqueue hcompletions
  exact ⟨hcompletions, hqueue⟩

/-! ### The head tested again (R139) -/

theorem State.reqWindowOpens_stays (h : s.req.head = .untaken ∨ s.req.head = .onLine) : s.reqWindowOpens = s := by
  unfold State.reqWindowOpens
  rcases h with h | h <;> rw [h] <;> split <;> rfl

/-- A head whose target passes and whose reservation fits keeps its claim. -/
theorem State.reqWindowOpens_passes (hq : s.req.queue = q :: behind) (hpasses : q.targetPasses s.roster = true)
    (hfits : s.tooLong q = false) : s.reqWindowOpens = s := by
  unfold State.reqWindowOpens
  simp only [hq, hpasses, hfits]
  split <;> rfl

theorem State.reqWindowOpens_noStation (hq : s.req.queue = q :: behind) (hhead : s.req.head = .claimed)
    (hpasses : q.targetPasses s.roster = false) : s.reqWindowOpens = s.finishHead .noStation 0 {} := by
  simp [State.reqWindowOpens, hq, hhead, hpasses]

theorem State.reqWindowOpens_tooLong (hq : s.req.queue = q :: behind) (hhead : s.req.head = .claimed)
    (hpasses : q.targetPasses s.roster = true) (hlong : s.tooLong q = true) :
    s.reqWindowOpens = s.finishHead .tooLong 0 {} := by
  simp [State.reqWindowOpens, hq, hhead, hpasses, hlong]

theorem State.reqWindowOpens_retry {o : LineOutcome} {n : Nat} (hq : s.req.queue = q :: behind)
    (hhead : s.req.head = .retryWaiting o n) (hfails : q.targetPasses s.roster = false ∨ s.tooLong q = true) :
    s.reqWindowOpens = s.finishHead o n {} := by
  have hfails' : (!q.targetPasses s.roster || s.tooLong q) = true := by simpa using hfails
  simp [State.reqWindowOpens, hq, hhead, hfails']

/-! ### The scheduled-window end (R52, R118) -/

/-- The open window opens, the Scheduler's claim is withdrawn, and the beacon is pending no longer. -/
def State.openOpened (s : State) : State := ((s.setTimer s.timer.openOpen).schedWithdraw).setBeaconPending false

theorem exec_schedWindowEnd (hwindow : s.timer.window = .sched) (hticks : s.timer.tickCount = 0) :
    exec .schedWindowEnd s = .next s.openOpened.reqWindowOpens :=
  congrArg Host.Outcome.next (if_pos ⟨hwindow, by simp [CycleTimer.expired, hwindow, hticks]⟩)

/-- Settles O20: what the window's end leaves by definition, and the head tested again by the cases above. -/
theorem scheduledWindowEnds : Obligations.ScheduledWindowEnds := by
  intro s hwindow hticks
  have hframe := s.openOpened.reqWindowOpens_engineFrame
  have hended : s.retriesEnded s.openOpened := (s.setTimer s.timer.openOpen).schedWithdraw_retriesEnded
  refine ⟨_, exec_schedWindowEnd hwindow hticks, ?_, ?_, ?_, ?_, ?_, ?_, fun n => ?_, ?_, ?_,
    ⟨?_, ?_, ?_, ?_, ?_, ?_⟩, ?_, ?_, ?_⟩
  · rw [hframe]; rfl
  · rw [hframe]; rfl
  · rw [hframe]; rfl
  · rw [hframe]; rfl
  · rw [hframe]; rfl
  · rw [hframe]; rfl
  · rw [hframe]; exact hended n
  · rw [hframe]; rfl
  · rw [hframe]; rfl
  · intro hhead
    rw [State.reqWindowOpens_stays (s := s.openOpened) hhead]
    exact ⟨rfl, rfl⟩
  · intro q behind hq _ hpasses hfits
    rw [State.reqWindowOpens_passes (s := s.openOpened) hq hpasses hfits]
    exact ⟨rfl, rfl, rfl⟩
  · intro q hq hhead hpasses
    rw [State.reqWindowOpens_noStation (s := s.openOpened) hq hhead hpasses,
      State.finishHead_single (s := s.openOpened) hq]
    exact ⟨rfl, rfl, rfl⟩
  · intro q hq hhead hpasses hlong
    rw [State.reqWindowOpens_tooLong (s := s.openOpened) hq hhead hpasses hlong,
      State.finishHead_single (s := s.openOpened) hq]
    exact ⟨rfl, rfl, rfl⟩
  · intro q o n hq hhead hfails
    rw [State.reqWindowOpens_retry (s := s.openOpened) hq hhead hfails, State.finishHead_single (s := s.openOpened) hq]
    exact ⟨rfl, rfl, rfl⟩
  · intro q behind o n hq hhead hfails
    rw [State.reqWindowOpens_retry (s := s.openOpened) hq hhead hfails]
    exact State.finishHead_extends (s := s.openOpened) hq o n {}
  · rw [hframe]; rfl
  · rw [hframe]; rfl
  · rw [hframe]; rfl

end Sys2Proof.Machine
end

section
/-! PROOFS. The entry to OFF: a transaction that ends in DRAINING, and STOP with nothing in flight or in a closing gap after a fault
(R58, R76, R80, R99, R102, R120, R147, R155, R156). -/

namespace Sys2Proof.Machine

open Sys2Proof

variable {s t u : State} {r : Record}

/-! ### The end of a closing gap, as an event -/

/-- The state in which a closing gap ends: where it ends inside a bit time the next boundary is still to come (R70). -/
def State.gapOver (s : State) (r : Record) : State := if r.offGrid then s.setBoundary false else s

theorem State.gapOver_eq (s : State) (r : Record) : s.gapOver r =
    { s with line := { s.line with boundary := if r.offGrid then false else s.line.boundary } } := by
  unfold State.gapOver
  split <;> rfl

theorem exec_closingGapEnd_over (hr : s.line.record = some r) (hphase : r.phase = .closing)
    (htime : closingGap ≤ r.phaseTime) : exec .closingGapEnd s = .next ((s.gapOver r).gapEnd r) :=
  congrArg Host.Outcome.next (State.onRecord_some hr (by simp [hphase, Record.due_closing, htime]))

/-! ### Entries after an outcome in OFF or DRAINING (R116, R120) -/

theorem SchedEntry.ended_status (e : SchedEntry) (o : LineOutcome) (reply : Reply) (cycle : Word) :
    (e.ended o reply cycle).status = if e.disablePending then .disabled else .waiting := rfl

/-- An entry whose issue has ended is not touched by the entry to OFF. -/
theorem SchedEntry.returned_ended (e : SchedEntry) (o : LineOutcome) (reply : Reply) (cycle : Word) :
    (e.ended o reply cycle).returned = e.ended o reply cycle := by
  have hst := e.ended_status o reply cycle
  unfold SchedEntry.returned
  rw [hst]
  cases e.disablePending <;> rfl

theorem State.entryOnLine_none (h : s.line.record = none) (n : Nat) : s.entryOnLine n = false := by
  simp [State.entryOnLine, h]

/-- Once nothing is in flight, entry `n`, whose attempt has just ended, is left as its outcome left it. -/
theorem State.schedLeave_ended {n : Nat} (hrecord : u.line.record = none) (e : SchedEntry) (o : LineOutcome) (reply : Reply)
    (cycle : Word) (he : u.entry n = e.ended o reply cycle) : u.schedLeave.entry n = e.ended o reply cycle := by
  rw [State.schedLeave_returned (State.entryOnLine_none hrecord n), he, SchedEntry.returned_ended]

/-! ### The line-free signal in DRAINING (R156) -/

/-- DRAINING ends: what the owner of the transaction has left enters OFF. -/
theorem State.lineFree_draining (h : s.run.state = .draining) : s.lineFree = s.enterOff.schedLeave.reqLeave := if_pos h

/-- Entry to OFF with no record in flight: Run Control, the timer, the line, the schedule. -/
theorem State.lineFree_off (h : u.run.state = .draining) (hrecord : u.line.record = none) :
    u.lineFree.run = { u.run with state := .off, check := .idle } ∧ u.timer.Closed u.lineFree.timer ∧
      u.lineFree.line.record = none ∧ u.lineFree.host.sticky.drained = true ∧ u.lineFree.line.schedClaim = none ∧
      (∀ n, (u.lineFree.entry n).status ≠ .due ∧ (u.lineFree.entry n).status ≠ .held) ∧
      u.lineFree.roster = u.roster ∧ u.lineFree.disc = u.disc := by
  have hframe := State.reqLeave_engineFrame u.enterOff.schedLeave
  have hdisc := (State.reqLeave_disc (s := u.enterOff.schedLeave) RunState.noConfusion).1
  rw [State.lineFree_draining h]
  refine ⟨?_, ?_, ?_, ?_, ?_, fun n => ?_, ?_, hdisc⟩
  · rw [hframe]; rfl
  · rw [hframe]; exact u.timer.closed_close
  · rw [hframe]; exact hrecord
  · rw [hframe]; rfl
  · rw [hframe]; rfl
  · rw [hframe]; exact u.enterOff.schedLeave_status n
  · rw [hframe]; rfl

/-- In OFF a round's next claim is not looked for. -/
theorem State.roundClaimSeen_not_running (h : s.run.state ≠ .running) : s.roundClaimSeen = s :=
  s.roundClaimSeen_cases.resolve_right fun hseen => h hseen.1

/-- The owner's part of a transaction that ends: the state in which the line is free. -/
def State.transactionEnds (s : State) (r : Record) : State :=
  match r.owner with
  | .beacon => s.setRecord none
  | .claim _ => s.deliver r (r.outcome.getD .aborted)
  | .discovery => s.finishRound r

theorem State.transactionEnds_frame (s : State) (r : Record) : (s.transactionEnds r).run = s.run ∧
    (s.transactionEnds r).timer = s.timer ∧ (s.transactionEnds r).line.record = none := by
  have hacts : ∀ {u : State}, (s.setRecord none).OwnersAct u → u.run = s.run ∧ u.timer = s.timer ∧ u.line.record = none :=
    fun h => ⟨h.run, h.timer, h.record_none rfl⟩
  unfold State.transactionEnds
  split
  · exact ⟨rfl, rfl, rfl⟩
  · exact hacts (s.deliver_acts _ _)
  · have hframe : ∀ v : State, v.run = s.run → v.timer = s.timer → v.line.record = none →
        v.discRoundEnd.run = s.run ∧ v.discRoundEnd.timer = s.timer ∧ v.discRoundEnd.line.record = none := by
      intro v hrun htimer hrecord
      rw [State.discRoundEnd_engineFrame]
      exact ⟨hrun, htimer, hrecord⟩
    unfold State.finishRound
    dsimp only
    split
    · obtain ⟨hrun, htimer, hrecord⟩ := hacts (State.discLineError_acts _)
      exact hframe _ hrun htimer hrecord
    · exact hframe _ rfl rfl rfl

/-- In DRAINING the end of a transaction is its owner's part and the entry to OFF. -/
theorem State.gapEnd_draining (h : s.run.state = .draining) (hafter : r.owner = .discovery → r.after = .finish) :
    s.gapEnd r = (s.transactionEnds r).lineFree := by
  have hrun := (s.transactionEnds_frame r).1
  unfold State.gapEnd
  cases howner : r.owner with
  | beacon => simp only [State.transactionEnds, howner]
  | claim o => simp only [State.transactionEnds, howner]
  | discovery =>
    obtain ⟨hoff, -⟩ := State.lineFree_off (u := s.transactionEnds r) (by rw [hrun]; exact h)
      (s.transactionEnds_frame r).2.2
    simp only [hafter howner]
    simp only [State.transactionEnds, howner] at hoff ⊢
    exact State.roundClaimSeen_not_running (by simp [hoff])

/-! ### Outcomes outside RUNNING (R76, R116, R142) -/

theorem State.scheduling_false (h : s.run.state ≠ .running) : s.scheduling = false := by
  simp [State.scheduling, h]

/-- Outside RUNNING the outcome of an entry's attempt ends its issue. -/
theorem State.deliver_scheduler {n : Nat} (h : s.run.state ≠ .running) (howner : r.owner = .claim (.scheduler n))
    (hst : (s.entry n).status = .inFlight) (o : LineOutcome) : s.deliver r o =
      (((((s.setRecord none).setRoster (s.roster.deliver (r.exchange == some .release) o r.dest s.timer.cycle)).setEntry n
        ((s.entry n).ended o r.reply s.timer.cycle)).setMailbox n
        ((s.mailbox n).taken (s.entry n) o r.reply s.timer.cycle)).setSticky { s.host.sticky with
          mbx := s.host.sticky.mbx ||
            (o == .ok && (s.entry n).direction != 1 && !((s.mailbox n).full && (s.entry n).policy == 0)) }) := by
  unfold State.deliver
  simp only [howner]
  exact State.schedOutcome_ended (s := (s.setRecord none).setRoster _) (State.scheduling_false h) hst o r.reply

/-- Outside RUNNING the engine takes the outcome of an attempt without a retry, and the request completes (R141). -/
theorem State.reqOutcome_not_running {q : Request} {behind : List Request} (h : s.run.state ≠ .running)
    (hq : s.req.queue = q :: behind) (o : LineOutcome) (n : Nat) (reply : Reply) : s.reqOutcome o n reply = { s with
      line := { s.line with reqClaim := none }
      req := { s.req with
        queue := behind, head := .untaken, completions := s.req.completions ++ [q.completion o n reply]
        reservations := s.req.reservations - 1 } } := by
  rw [← State.finishHead_not_running h o n reply hq]
  simp [State.reqOutcome, hq, h]

theorem State.deliver_request {tag : Nat} {q : Request} {behind : List Request} (h : s.run.state ≠ .running)
    (howner : r.owner = .claim (.request tag)) (hq : s.req.queue = q :: behind) (o : LineOutcome) : s.deliver r o = { s with
      line := { s.line with record := none, reqClaim := none }
      roster := s.roster.deliver (r.exchange == some .release) o r.dest s.timer.cycle
      req := { s.req with
        queue := behind, head := .untaken, completions := s.req.completions ++ [q.completion o r.attempt r.reply]
        reservations := s.req.reservations - 1 } } := by
  unfold State.deliver
  simp only [howner]
  exact State.reqOutcome_not_running (s := (s.setRecord none).setRoster _) h hq o r.attempt r.reply

/-- Outside RUNNING no outcome of an attempt reaches the unit. -/
theorem State.deliver_disc (h : s.run.state ≠ .running) (r : Record) (o : LineOutcome) : (s.deliver r o).disc = s.disc := by
  unfold State.deliver
  dsimp only
  split
  · rw [State.schedOutcome_frame]; rfl
  · cases hq : s.req.queue with
    | nil => simp [State.reqOutcome, hq]
    | cons q behind =>
      rw [State.reqOutcome_not_running (s := (s.setRecord none).setRoster _) h hq]
      rfl
  · rfl
  · rfl

theorem State.reqLeave_untaken (h : s.req.head = .untaken) : s.reqLeave = s := by
  simp [State.reqLeave, h]

/-! ### DRAINING goes to OFF -/

/-- A beacon that ends outside DRAINING only ends (R67, R76). -/
theorem exec_closingGapEnd_beacon (hr : s.line.record = some r) (howner : r.owner = .beacon) (hphase : r.phase = .closing)
    (htime : closingGap ≤ r.phaseTime) (hst : s.run.state ≠ .draining) : exec .closingGapEnd s = .next { s with
      line := { s.line with record := none, boundary := if r.offGrid then false else s.line.boundary } } := by
  have hgap : (s.gapOver r).gapEnd r = ((s.gapOver r).setRecord none).lineFree := by
    unfold State.gapEnd
    rw [howner]
  rw [exec_closingGapEnd_over hr hphase htime, hgap, State.lineFree_of_not_draining, State.gapOver_eq]
  · rfl
  · rw [State.gapOver_eq]; exact hst

/-- Settles O41: `State.gapEnd_draining` is the owner's part, stated for each owner, and the entry to OFF. -/
theorem drainEndsInOff : Obligations.DrainEndsInOff := by
  refine ⟨fun s r hr howner hphase htime hst => exec_closingGapEnd_beacon hr howner hphase htime hst,
    fun s r hr hafter hphase htime hst => ?_⟩
  generalize hu : s.gapOver r = u
  rw [State.gapOver_eq] at hu
  have hst' : u.run.state = .draining := by rw [← hu]; exact hst
  have hne : u.run.state ≠ .running := by simp [hst']
  obtain ⟨hrun, htimer, hrecord⟩ := u.transactionEnds_frame r
  have hexec : exec .closingGapEnd s = .next (u.transactionEnds r).lineFree := by
    rw [exec_closingGapEnd_over hr hphase htime, State.gapOver_eq, hu, State.gapEnd_draining hst' hafter]
  have hdrains : (u.transactionEnds r).run.state = .draining := by rw [hrun, hst']
  obtain ⟨hoff, hclosed, hnone, hdrained, hclaim, hentries, hroster, hdisc⟩ := State.lineFree_off hdrains hrecord
  have hfree := State.lineFree_draining hdrains
  have hdeliver : ∀ {o out}, r.owner = .claim o → r.outcome = some out → u.transactionEnds r = u.deliver r out := by
    intro o out howner hout
    simp only [State.transactionEnds, howner, hout, Option.getD_some]
  refine ⟨_, hexec, ?_, ?_, hnone, hdrained, hclaim, hentries, fun howner => ⟨?_, ?_, fun hhead => ?_⟩,
    fun o out howner hout => ⟨?_, ?_⟩, fun n out howner hout hflight => ?_, fun tag q behind out howner hout hq => ?_⟩
  · rw [hoff, hrun, ← hu]
  · rwa [htimer, show u.timer = s.timer by rw [← hu]] at hclosed
  · rw [hroster, ← hu]; simp only [State.transactionEnds, howner]; rfl
  · rw [hdisc, ← hu]; simp only [State.transactionEnds, howner]; rfl
  · have hbeacon : u.transactionEnds r = u.setRecord none := by simp only [State.transactionEnds, howner]
    rw [hfree, hbeacon, State.reqLeave_untaken (by rw [← hu]; exact hhead), ← hu]
    rfl
  · rw [hdisc, hdeliver howner hout, State.deliver_disc hne, ← hu]
  · rw [hroster, hdeliver howner hout, State.deliver_roster, ← hu]
  · have hended : (u.transactionEnds r).lineFree.entry n = (s.entry n).ended out r.reply s.timer.cycle := by
      have hn : n < 32 := s.entry_lt_of_status (by simp [hflight])
      have hentry : (u.deliver r out).enterOff.entry n = (s.entry n).ended out r.reply s.timer.cycle := by
        rw [State.deliver_scheduler hne howner (by rw [← hu]; exact hflight), ← hu]
        exact State.entry_setEntry_self _ hn _
      rw [hdeliver howner hout] at hrecord hfree ⊢
      rw [hfree, State.reqLeave_engineFrame]
      exact State.schedLeave_ended (u := (u.deliver r out).enterOff) hrecord _ _ _ _ hentry
    rw [hended]
    exact ⟨rfl, rfl, rfl⟩
  · rw [hfree, hdeliver howner hout, State.deliver_request hne howner (by rw [← hu]; exact hq),
      State.reqLeave_untaken rfl, ← hu]
    rfl

end Sys2Proof.Machine
end

section
/-! PROOFS. STOP to OFF: with nothing in flight, and in a closing gap after a fault (R58, R80, R99, R102, R120, R147, R155). -/

namespace Sys2Proof.Machine

open Sys2Proof

variable {s t v : State} {r : Record}

/-! ### What STOP leaves in OFF, whatever the owners do -/

/-- OFF as STOP leaves it: Run Control, the timer, the line, no due mark, and the host's registers (R58, R155, R162). -/
def State.StoppedOff (s t : State) : Prop :=
  t.run = { s.run with state := .off, check := .idle } ∧ s.timer.Closed t.timer ∧
    t.line.record = none ∧ t.line.beaconPending = false ∧ t.line.schedClaim = none ∧
    (∀ n, (t.entry n).status ≠ .due ∧ (t.entry n).status ≠ .held) ∧
    t.host = { s.host with
      cmd := 0x03, result := .done, resultVal := 0, sticky := { s.host.sticky with drained := true } } ∧
    t.dataBus = s.dataBus ∧ t.pending = s.pending

/-- OFF as it is entered by an accepted STOP. -/
abbrev State.stopping (s : State) : State := (s.setCmd 0x03).enterOff

/-- The parts of OFF that the owners leave alone as they leave RUNNING or as the line is cut. -/
structure State.OffKept (s v : State) : Prop where
  run     : v.run = s.stopping.run
  timer   : v.timer = s.stopping.timer
  record  : v.line.record = none
  beacon  : v.line.beaconPending = false
  host    : v.host = s.stopping.host
  dataBus : v.dataBus = s.dataBus
  pending : v.pending = s.pending

/-- The Scheduler's part and the result complete OFF. -/
theorem State.OffKept.stoppedOff (h : s.OffKept v) (hclaim : v.line.schedClaim = none)
    (hentries : ∀ n, (v.entry n).status ≠ .due ∧ (v.entry n).status ≠ .held) :
    s.StoppedOff (v.setResult .done 0) := by
  refine ⟨h.run, ?_, h.record, h.beacon, hclaim, hentries, ?_, h.dataBus, h.pending⟩
  · rw [State.setResult_timer, h.timer]; exact s.timer.closed_close
  · rw [State.setResult_host, h.host]; rfl

theorem State.OffKept.schedLeave (h : s.OffKept v) : s.StoppedOff (v.schedLeave.setResult .done 0) :=
  State.OffKept.stoppedOff ⟨h.run, h.timer, h.record, h.beacon, h.host, h.dataBus, h.pending⟩ rfl v.schedLeave_status

theorem State.offKept_stopping (h : s.line.record = none) : s.OffKept s.stopping := ⟨rfl, rfl, h, rfl, rfl, rfl, rfl⟩

theorem State.exec_stop (h : s.accepts) : exec .stop s = .next (s.setCmd 0x03).stop :=
  congrArg Host.Outcome.next (State.command_accepted h _ _)

/-- STOP in RUNNING with nothing in flight (R155). -/
theorem State.exec_stop_running (hreset : s.run.resetAsserted = false) (hst : s.run.state = .running)
    (hrecord : s.line.record = none) :
    exec .stop s = .next ((s.stopping.schedLeave.ownersLeave .stopped).setResult .done 0) := by
  have hrun : (s.setCmd 0x03).run.state = .running := hst
  have hidle : ¬ (s.setCmd 0x03).line.record.isSome = true := by simp [hrecord]
  rw [State.exec_stop ⟨hreset, by simp [hst]⟩]
  unfold State.stop
  rw [hrun]
  exact congrArg Host.Outcome.next (if_neg hidle)

/-- STOP in FAULTED and CHECKING cuts what is left of the line (R80, R155). -/
theorem State.exec_stop_faulty (hreset : s.run.resetAsserted = false)
    (hst : s.run.state = .faulted ∨ s.run.state = .checking) :
    exec .stop s = .next (s.stopping.cutLine.schedLeave.setResult .done 0) := by
  rw [State.exec_stop ⟨hreset, by rcases hst with hst | hst <;> simp [hst]⟩]
  unfold State.stop
  rcases hst with hst | hst <;> rw [State.setCmd_run, hst]

/-! ### The cut of a closing gap with LINE_ERROR (R80, R102) -/

theorem State.cutLine_none (h : s.line.record = none) : s.cutLine = s := by
  unfold State.cutLine
  rw [h]

theorem State.cutLine_beacon (hr : s.line.record = some r) (howner : r.owner = .beacon) : s.cutLine = s.setRecord none := by
  unfold State.cutLine
  simp only [hr, howner]

theorem State.cutLine_claim {o : ClaimOwner} {out : LineOutcome} (hr : s.line.record = some r)
    (howner : r.owner = .claim o) (hphase : r.phase = .closing) (hout : r.outcome = some out) :
    s.cutLine = s.deliver r out := by
  unfold State.cutLine
  simp only [hr, howner, hphase, hout, if_true, Option.getD_some]

/-- A round that has seen the fault and waits for no ASSIGN ends its sweep LINE_ERROR as it is aborted (R95, R102). -/
theorem State.faultedRound_ends {sw : Sweep} {rd : Round} (hd : s.disc = .inRound sw rd) (hseen : sw.faultSeen = true)
    (hphase : rd.phase ≠ .assignWait) : s.discAborted.discRoundEnd = s.endSweep sw .lineError := by
  have haborted : s.discAborted = s.setDisc (.inRound sw { rd with phase := .closing, aborted := true }) := by
    simp only [State.discAborted, hd, hphase, if_false]
  have hcourse : ∀ rd' n b, sw.courseAtRoundEnd rd' n b = some .lineError := fun _ _ _ => if_pos hseen
  rw [haborted]
  simp only [State.discRoundEnd, State.setDisc, hcourse]
  rfl

/-- A sweep whose round has seen the fault ends LINE_ERROR as its round is cut, one more noisy round where the CONTEND frame failed
(R101, R102). -/
theorem State.cutLine_faultedRound {sw : Sweep} {rd : Round} (hr : s.line.record = some r) (howner : r.owner = .discovery)
    (hout : r.outcome = some .lineError) (hd : s.disc = .inRound sw rd) (hseen : sw.faultSeen = true)
    (hphase : rd.phase ≠ .assignWait) : s.cutLine =
      (s.setRecord none).endSweep (if r.part = .contend then sw.noisier else sw) .lineError := by
  unfold State.cutLine
  simp only [hr, howner, hout, and_true]
  by_cases hpart : r.part = .contend
  · have herror : (s.setRecord none).discLineError =
        (s.setRecord none).setDisc (.inRound sw.noisier { rd with phase := .closing }) := by
      simp only [State.discLineError, State.setRecord_disc, hd, hphase, if_false]
    rw [if_pos hpart, if_pos hpart, herror, State.faultedRound_ends (sw := sw.noisier) rfl hseen (by simp)]
    rfl
  · rw [if_neg hpart, if_neg hpart, State.faultedRound_ends (s := s.setRecord none) hd hseen hphase]

/-- A mailbox as the outcome LINE_ERROR of an attempt of its entry is taken (R130). -/
theorem Mailbox.taken_lineError (m : Mailbox) (e : SchedEntry) (reply : Reply) (cycle : Word) :
    m.taken e .lineError reply cycle = { m with replaced := m.replaced && !(e.direction == 1) } := by
  unfold Mailbox.taken
  by_cases hd : e.direction = 1
  · simp [hd]
  · have hd' : (e.direction == 1) = false := beq_eq_false_iff_ne.2 hd
    simp only [hd, hd', if_false, Bool.not_false, Bool.and_true, ne_eq, reduceCtorEq, not_false_eq_true, if_true]

/-- Outside RUNNING, LINE_ERROR ends the issue of an entry; MBX stays. -/
theorem State.deliver_scheduler_lineError {n : Nat} (h : s.run.state ≠ .running)
    (howner : r.owner = .claim (.scheduler n)) (hst : (s.entry n).status = .inFlight) : s.deliver r .lineError =
      ((((s.setRecord none).setRoster (s.roster.deliver (r.exchange == some .release) .lineError r.dest s.timer.cycle)).setEntry
        n ((s.entry n).ended .lineError r.reply s.timer.cycle)).setMailbox n
        { s.mailbox n with replaced := (s.mailbox n).replaced && !((s.entry n).direction == 1) }) := by
  have hok : (LineOutcome.lineError == .ok) = false := rfl
  rw [State.deliver_scheduler h howner hst, Mailbox.taken_lineError, hok, Bool.false_and, Bool.false_and, Bool.or_false]
  rfl

/-- One mailbox with its *replaced* mark cleared for a WRITE entry, the others as they were. -/
theorem State.mailbox_setMailbox_replaced {n : Nat} (hn : n < 32) (b : Bool) (k : Nat) :
    (s.setMailbox n { s.mailbox n with replaced := (s.mailbox n).replaced && !b }).mailbox k =
      { s.mailbox k with replaced := (s.mailbox k).replaced && !(k == n && b) } := by
  by_cases hk : k = n
  · rw [hk, State.mailbox_setMailbox_self _ hn, beq_self_eq_true, Bool.true_and]
  · rw [State.mailbox_setMailbox_ne _ hk, beq_eq_false_iff_ne.2 hk, Bool.false_and, Bool.not_false, Bool.and_true]

/-! ### STOP -/

/-- With nothing in flight, every entry is as it was but for its marks and waiting retries. -/
theorem State.stopping_returned (h : s.line.record = none) (n : Nat) :
    s.stopping.schedLeave.entry n = (s.entry n).returned :=
  State.schedLeave_returned (s := s.stopping) (State.entryOnLine_none h n)

theorem stop_idle (hreset : s.run.resetAsserted = false)
    (hst : s.run.state = .running ∨ s.run.state = .faulted ∨ s.run.state = .checking) (hrecord : s.line.record = none) :
    ∃ t, exec .stop s = .next t ∧ s.StoppedOff t ∧ t.sched.mailboxes = s.sched.mailboxes ∧ t.roster = s.roster ∧
      (∀ n, t.entry n = (s.entry n).returned) ∧
      (s.run.state = .running → s.HeadLeft t (s.disc.ending .stopped) ∧ s.sweepLeft t) ∧
      (s.run.state ≠ .running → t.req = s.req ∧ t.disc = s.disc) := by
  rcases hst with hst | hst
  · obtain ⟨n, hframe⟩ := State.ownersLeave_engineFrame s.stopping.schedLeave .stopped
    obtain ⟨hhead, hsweep⟩ := State.ownersLeave_left (s := s.stopping.schedLeave) RunState.noConfusion .stopped
    generalize hv : s.stopping.schedLeave.ownersLeave .stopped = v at hframe hhead hsweep
    have hsched : v.sched = s.stopping.schedLeave.sched := by rw [hframe]
    refine ⟨_, State.exec_stop_running hreset hst hrecord, ?_, ?_, ?_, fun n => ?_, fun _ => ⟨?_, ?_⟩,
      fun hne => absurd hst hne⟩
    all_goals rw [hv]
    · refine State.OffKept.stoppedOff ⟨?_, ?_, ?_, ?_, ?_, ?_, ?_⟩ ?_ fun n => ?_
      · rw [hframe]; rfl
      · rw [hframe]; rfl
      · rw [hframe]; exact hrecord
      · rw [hframe]; rfl
      · rw [hframe]; rfl
      · rw [hframe]; rfl
      · rw [hframe]; rfl
      · rw [hframe]; rfl
      · rw [State.entry, hsched]; exact s.stopping.schedLeave_status n
    · rw [State.setResult_sched, hsched]; rfl
    · rw [State.setResult_roster, hframe]; rfl
    · rw [State.entry, State.setResult_sched, hsched]; exact State.stopping_returned hrecord n
    · exact ⟨hhead.stays, hhead.claimed, hhead.retry⟩
    · exact hsweep
  · refine ⟨_, State.exec_stop_faulty hreset hst, ?_, ?_, ?_, fun n => ?_, fun hrun => ?_, fun _ => ?_⟩
    all_goals rw [State.cutLine_none (s := s.stopping) hrecord]
    · exact (State.offKept_stopping hrecord).schedLeave
    · rfl
    · rfl
    · exact State.stopping_returned hrecord n
    · rcases hst with hst | hst <;> simp [hst] at hrun
    · exact ⟨rfl, rfl⟩

/-- Settles O10: `stop_idle`, and the cut of a closing gap for each owner. -/
theorem stopGoesOff : Obligations.StopGoesOff := by
  refine ⟨fun s hreset hst hrecord => stop_idle hreset hst hrecord, fun s r hreset hst hr hphase hout => ?_⟩
  have hexec := State.exec_stop_faulty hreset hst
  have hoff : s.stopping.run.state ≠ .running := RunState.noConfusion
  have hkept : ∀ v : State, v.run = s.stopping.run → v.timer = s.stopping.timer → v.line.record = none →
      v.line.beaconPending = false → v.host = s.stopping.host → v.dataBus = s.dataBus → v.pending = s.pending →
      s.StoppedOff (v.schedLeave.setResult .done 0) :=
    fun v h1 h2 h3 h4 h5 h6 h7 => State.OffKept.schedLeave ⟨h1, h2, h3, h4, h5, h6, h7⟩
  refine ⟨fun howner => ?_, fun n howner hn hflight => ?_, fun tag q behind howner hq => ?_,
    fun sw rd howner hd hseen hwait => ?_⟩
  · rw [State.cutLine_beacon (s := s.stopping) hr howner] at hexec
    exact ⟨_, hexec, hkept _ rfl rfl rfl rfl rfl rfl rfl, rfl, rfl, rfl, rfl⟩
  · rw [State.cutLine_claim (s := s.stopping) hr howner hphase hout,
      State.deliver_scheduler_lineError (s := s.stopping) hoff howner hflight] at hexec
    exact ⟨_, hexec, hkept _ rfl rfl rfl rfl rfl rfl rfl, rfl, rfl, rfl,
      State.schedLeave_ended rfl (s.entry n) .lineError r.reply s.timer.cycle (State.entry_setEntry_self _ hn _),
      State.mailbox_setMailbox_replaced (s := s) hn _⟩
  · rw [State.cutLine_claim (s := s.stopping) hr howner hphase hout,
      State.deliver_request (s := s.stopping) hoff howner hq] at hexec
    exact ⟨_, hexec, hkept _ rfl rfl rfl rfl rfl rfl rfl, rfl, rfl, rfl, rfl⟩
  · rw [State.cutLine_faultedRound (s := s.stopping) hr howner hout hd hseen hwait] at hexec
    refine ⟨_, hexec, hkept _ rfl rfl rfl rfl rfl rfl rfl, rfl, rfl, rfl, ?_⟩
    split <;> rfl

end Sys2Proof.Machine
end

section
/-! PROOFS. Host accesses as one family: what every write to CMD, to another register or to WIN_DATA does, so that a law is
carried through all of them by its cases for the owners of the commands (R164, R171, R172). -/

namespace Sys2Proof.Machine

open Sys2Proof

variable {s t : State} {c : Instr}

/-- A command is a write of its code to CMD, however it is spelled (R171). -/
theorem exec_of_writesCommand (h : writesCommand c = true) (s : State) :
    ∃ code, exec c s = .next (s.commandWrite code) := by
  cases c with
  | reset => exact ⟨0x01, rfl⟩
  | start => exact ⟨0x02, rfl⟩
  | stop => exact ⟨0x03, rfl⟩
  | halt => exact ⟨0x04, rfl⟩
  | resume => exact ⟨0x05, rfl⟩
  | timingLoad => exact ⟨0x10, rfl⟩
  | threshLoad => exact ⟨0x20, rfl⟩
  | pin => exact ⟨0x21, rfl⟩
  | unpin => exact ⟨0x22, rfl⟩
  | clearConflict => exact ⟨0x23, rfl⟩
  | popChange => exact ⟨0x24, rfl⟩
  | stationSnap => exact ⟨0x25, rfl⟩
  | schedSet => exact ⟨0x30, rfl⟩
  | schedEnable => exact ⟨0x31, rfl⟩
  | schedDisable => exact ⟨0x32, rfl⟩
  | schedSnap => exact ⟨0x33, rfl⟩
  | take => exact ⟨0x40, rfl⟩
  | put => exact ⟨0x41, rfl⟩
  | submit => exact ⟨0x50, rfl⟩
  | cancel => exact ⟨0x51, rfl⟩
  | popCompletion => exact ⟨0x52, rfl⟩
  | unknownCommand code => exact ⟨code, rfl⟩
  | registerWrite addr value =>
    obtain rfl : addr = 5 := by simpa [writesCommand] using h
    exact ⟨value, rfl⟩
  | _ => cases h

theorem State.busWrite_setHost (s : State) {store : State → State} (h : ∃ host, store s = s.setHost host) :
    ∃ host, s.busWrite store = s.setHost host := by
  unfold State.busWrite
  split
  · exact ⟨s.host, rfl⟩
  · exact h

/-- A write to a register other than CMD shows in the Host Port alone (R164 to R167, R174, R175). -/
theorem exec_of_writesRegister (h : writesRegister c = true) (s : State) :
    ∃ host, exec c s = .next (s.setHost host) := by
  have stored : ∀ {store : State → State}, (∃ host, store s = s.setHost host) →
      ∃ host, Host.Outcome.next (s.busWrite store) = (.next (s.setHost host) : Answer) := fun hstore =>
    let ⟨host, hhost⟩ := s.busWrite_setHost hstore
    ⟨host, congrArg Host.Outcome.next hhost⟩
  have index : ∀ v, ∃ host, Host.Outcome.next (s.winIndexWrite v) = (.next (s.setHost host) : Answer) := fun v => by
    refine stored ?_
    split
    · split
      · exact ⟨_, rfl⟩
      · exact ⟨s.host, rfl⟩
    · exact ⟨s.host, rfl⟩
  cases c with
  | winSelWrite value => exact stored ⟨_, rfl⟩
  | winIndexWrite value => exact index value
  | winDataWrite value => exact stored ⟨_, rfl⟩
  | eventWrite value => exact stored ⟨_, rfl⟩
  | enableWrite value => exact stored ⟨_, rfl⟩
  | registerWrite addr value =>
    show ∃ host, Host.Outcome.next (s.registerWrite addr value) = (.next (s.setHost host) : Answer)
    unfold State.registerWrite
    split
    case h_3 haddr =>
      obtain rfl : addr = 5 := BitVec.eq_of_toNat_eq haddr
      cases h
    case h_5 => exact index value
    all_goals exact stored ⟨_, rfl⟩
  | _ => cases h

/-- A property that the Host Port has no part in and every owner of a command keeps is kept by a write to CMD. -/
theorem State.commandWrite_keeps {P : State → Prop} (hhost : ∀ u host, P u → P (u.setHost host))
    (howner : ∀ p ∈ commandTable, ∀ u, P u → P (p.2 u)) (hs : P s) (code : Word) : P (s.commandWrite code) := by
  have hlookup : ∀ table : List (Nat × (State → State)), (∀ p ∈ table, ∀ u, P u → P (p.2 u)) → ∀ u, P u →
      P ((table.lookup code.toNat).getD State.refuseUnknown u) := by
    intro table htable u hu
    induction table with
    | nil => exact hhost u _ hu
    | cons p table ih =>
      obtain ⟨hp, ht⟩ := List.forall_mem_cons.1 htable
      rw [List.lookup_cons]
      split
      · exact hp u hu
      · exact ih ht
  unfold State.commandWrite State.command
  split
  · exact hs
  split
  · exact hhost s _ hs
  · exact hlookup commandTable howner _ (hhost s _ hs)

/-- An event of the pins, the timer or the line, or a read: no bus write. -/
def isEvent (c : Instr) : Bool := !(writesCommand c || writesRegister c)

/-- Every write to a register has its address, so REGISTER_WRITE is a bus write. -/
theorem not_isEvent_registerWrite (addr : BitVec 5) (value : Word) : isEvent (.registerWrite addr value) = false := by
  simp [isEvent, writesCommand, writesRegister]

/-- A property that the Host Port has no part in is kept by every command, once the owners of the commands and the events keep
it. -/
theorem exec_keeps {P : State → Prop} (hhost : ∀ u host, P u → P (u.setHost host))
    (howner : ∀ p ∈ commandTable, ∀ u, P u → P (p.2 u))
    (hevent : isEvent c = true → P s → P t) (h : exec c s = .next t) (hs : P s) : P t := by
  cases hcommand : writesCommand c with
  | true =>
    obtain ⟨code, hexec⟩ := exec_of_writesCommand hcommand s
    cases hexec.symm.trans h
    exact State.commandWrite_keeps hhost howner hs code
  | false =>
    cases hregister : writesRegister c with
    | true =>
      obtain ⟨host, hexec⟩ := exec_of_writesRegister hregister s
      cases hexec.symm.trans h
      exact hhost s host hs
    | false => exact hevent (by rw [isEvent, hcommand, hregister]; rfl) hs

end Sys2Proof.Machine
end

section
/-! PROOFS. The laws of the engine, the unit and the line under every operation (R61, R83, R134 to R136). -/

namespace Sys2Proof.Machine

open Sys2Proof

variable {s t : State}

/-! ### The parts of the state that the laws speak of -/

/-- The owner of the transaction in flight, the claims of the open window, the unit and the engine. -/
structure Ledger where
  owner      : Option RecordOwner
  reqClaim   : Option Claim
  roundClaim : Bool
  disc       : Discovery
  req        : RequestEngine

def State.ledger (s : State) : Ledger := ⟨s.recordOwner, s.line.reqClaim, s.line.roundClaim, s.disc, s.req⟩

/-- The laws hold wherever the ledger is that of a lawful state. -/
theorem State.EngineLawful.of_ledger (h : s.EngineLawful) (heq : t.ledger = s.ledger) : t.EngineLawful := by
  simp only [State.ledger, Ledger.mk.injEq] at heq
  obtain ⟨howner, hclaim, hround, hdisc, hreq⟩ := heq
  have hheld : t.heldReservations = s.heldReservations := by simp only [State.heldReservations, hreq, hdisc]
  have htags : t.tagsInUse = s.tagsInUse := by simp only [State.tagsInUse, hreq, hdisc]
  constructor
  · rw [howner, hreq]; exact h.onLine
  · rw [hclaim, hreq]; exact h.claim
  · rw [hclaim]; exact h.claimOwner
  · rw [howner, hdisc]; exact h.round
  · rw [hround, hdisc]; exact h.roundClaim
  · rw [hreq]; exact h.head
  · rw [hreq, hheld]; exact h.reservations
  · rw [hreq]; exact h.room
  · rw [hreq, htags]; exact h.queue

/-! ### Operations that leave the ledger alone -/

variable (s)

@[simp] theorem State.setHost_ledger (host : HostPort) : (s.setHost host).ledger = s.ledger := rfl
@[simp] theorem State.setPending_ledger (q : List Instr) : (s.setPending q).ledger = s.ledger := rfl
@[simp] theorem State.setResult_ledger (code : ResultCode) (val : Nat) : (s.setResult code val).ledger = s.ledger := rfl
@[simp] theorem State.setRoster_ledger (roster : Roster) : (s.setRoster roster).ledger = s.ledger := rfl
@[simp] theorem State.setBoundary_ledger (b : Bool) : (s.setBoundary b).ledger = s.ledger := rfl
@[simp] theorem State.setEntry_ledger (n : Nat) (e : SchedEntry) : (s.setEntry n e).ledger = s.ledger := rfl
@[simp] theorem State.setSchedClaim_ledger (c : Option Claim) : (s.setSchedClaim c).ledger = s.ledger := rfl

/-- A record of the same owner changes nothing of the ledger. -/
theorem State.setRecord_ledger {r r' : Record} (hr : s.line.record = some r) (howner : r'.owner = r.owner) :
    (s.setRecord (some r')).ledger = s.ledger := by
  simp [State.ledger, State.recordOwner, hr, howner]

@[simp] theorem State.choose_ledger : s.choose.ledger = s.ledger := by
  simp [State.ledger, State.recordOwner]

@[simp] theorem State.chooseAtBoundary_ledger : s.chooseAtBoundary.ledger = s.ledger := by
  unfold State.chooseAtBoundary
  split
  · exact s.choose_ledger
  · rfl

@[simp] theorem State.schedOutcome_ledger (n : Nat) (o : LineOutcome) (reply : Reply) :
    (s.schedOutcome n o reply).ledger = s.ledger := by
  rw [State.schedOutcome_frame]; rfl

@[simp] theorem State.schedCycleStart_ledger : s.schedCycleStart.ledger = s.ledger := by
  rw [State.schedCycleStart_frame]; rfl

@[simp] theorem State.roundClaimSeen_ledger : s.roundClaimSeen.ledger = s.ledger := by
  rcases s.roundClaimSeen_cases with h | ⟨-, -, -, -, h | h⟩ <;> rw [h] <;> rfl

@[simp] theorem State.initEnd_ledger : s.initEnd.ledger = s.ledger := by
  unfold State.initEnd
  split <;> rfl

@[simp] theorem State.resume_ledger : s.resume.ledger = s.ledger := by
  unfold State.resume
  split <;> rfl

@[simp] theorem State.lineCheckStuck_ledger : s.lineCheckStuck.ledger = s.ledger := by
  unfold State.lineCheckStuck
  split <;> rfl

@[simp] theorem State.timingLoad_ledger : s.timingLoad.ledger = s.ledger := by
  unfold State.timingLoad
  dsimp only
  split <;> rfl

@[simp] theorem State.threshLoad_ledger : s.threshLoad.ledger = s.ledger := by
  unfold State.threshLoad
  repeat' split
  all_goals rfl

@[simp] theorem State.pin_ledger : s.pin.ledger = s.ledger := by
  unfold State.pin
  dsimp only
  repeat' split
  all_goals rfl

@[simp] theorem State.unpin_ledger : s.unpin.ledger = s.ledger := by
  unfold State.unpin
  dsimp only
  repeat' split
  all_goals rfl

@[simp] theorem State.clearConflict_ledger : s.clearConflict.ledger = s.ledger := by
  unfold State.clearConflict
  dsimp only
  repeat' split
  all_goals rfl

@[simp] theorem State.popChange_ledger : s.popChange.ledger = s.ledger := by
  unfold State.popChange
  split <;> rfl

@[simp] theorem State.stationSnap_ledger : s.stationSnap.ledger = s.ledger := by
  unfold State.stationSnap
  dsimp only
  split <;> rfl

@[simp] theorem State.schedSet_ledger : s.schedSet.ledger = s.ledger := by
  unfold State.schedSet
  dsimp only
  repeat' split
  all_goals rfl

@[simp] theorem State.schedEnable_ledger : s.schedEnable.ledger = s.ledger := by
  unfold State.schedEnable
  dsimp only
  repeat' split
  all_goals rfl

@[simp] theorem State.schedDisable_ledger : s.schedDisable.ledger = s.ledger := by
  have hwithdraw : ∀ e : SchedEntry,
      (((s.setEntry s.host.argNat e).setSchedClaim none).choose.setResult .done 0).ledger = s.ledger := fun e => by simp
  unfold State.schedDisable
  dsimp only
  split
  · rfl
  split
  case h_5 =>
    split
    · exact hwithdraw _
    · rfl
  case h_6 =>
    split
    · rfl
    · exact hwithdraw _
  all_goals rfl

@[simp] theorem State.schedSnap_ledger : s.schedSnap.ledger = s.ledger := by
  unfold State.schedSnap
  dsimp only
  split <;> rfl

@[simp] theorem State.take_ledger : s.take.ledger = s.ledger := by
  unfold State.take
  dsimp only
  repeat' split
  all_goals rfl

@[simp] theorem State.put_ledger : s.put.ledger = s.ledger := by
  unfold State.put
  dsimp only
  repeat' split
  all_goals rfl

variable {s}

/-! ### The head (R135 to R137, R140, R144) -/

/-- The head is worked on and its claim waits for a grant (R136). -/
def HeadCondition.waits (h : HeadCondition) : Prop := h = .claimed ∨ h.isRetryWaiting = true

theorem HeadCondition.waits_claimed : HeadCondition.claimed.waits := .inl rfl
theorem HeadCondition.waits_retry (o : LineOutcome) (n : Nat) : (HeadCondition.retryWaiting o n).waits := .inr rfl
theorem HeadCondition.not_waits_untaken : ¬ HeadCondition.untaken.waits := by
  simp [HeadCondition.waits, HeadCondition.isRetryWaiting]
theorem HeadCondition.not_waits_onLine : ¬ HeadCondition.onLine.waits := by
  simp [HeadCondition.waits, HeadCondition.isRetryWaiting]

theorem HeadCondition.waits.ne_untaken {h : HeadCondition} (hw : h.waits) : h ≠ .untaken := by
  rintro rfl; exact HeadCondition.not_waits_untaken hw

theorem HeadCondition.waits.ne_onLine {h : HeadCondition} (hw : h.waits) : h ≠ .onLine := by
  rintro rfl; exact HeadCondition.not_waits_onLine hw

/-- No claim of the engine is placed while its head does not wait for a grant. -/
theorem State.EngineLawful.reqClaim_none (h : s.EngineLawful) (hhead : ¬ s.req.head.waits) : s.line.reqClaim = none :=
  Option.not_isSome_iff_eq_none.1 fun hsome => hhead (h.claim.1 hsome)

/-- A head that waits and leaves the queue gives its place, its tag and its reservation back; `records` more completions may be
written with that reservation (R135, R144, R146). -/
theorem State.EngineLawful.headLeaves (h : s.EngineLawful) (hwaits : s.req.head.waits) {written : List Completion}
    (hwritten : written.length ≤ 1) {queue : List Request} (hqueue : queue.Sublist s.req.queue) :
    State.EngineLawful { s with
      line := { s.line with reqClaim := none }
      req := { queue := queue, head := .untaken, completions := s.req.completions ++ written
               reservations := s.req.reservations - 1 } } := by
  have hheld := h.reservations
  have hroom := h.room
  simp only [State.heldReservations, hwaits.ne_untaken, if_false] at hheld
  constructor
  · exact ⟨fun hrequest => absurd (h.onLine.1 hrequest) hwaits.ne_onLine, HeadCondition.noConfusion⟩
  · simp [HeadCondition.isRetryWaiting]
  · intro c hc; cases hc
  · exact h.round
  · exact h.roundClaim
  · exact fun hne => absurd rfl hne
  · show s.req.reservations - 1 = 0 + if s.disc.active then 1 else 0
    omega
  · simp only [List.length_append]
    omega
  · refine ⟨hqueue.length_le.trans h.queue.1, h.queue.2.sublist ?_⟩
    exact (hqueue.map _).append_right _

/-- The head completes with its claim withdrawn (R144). -/
theorem State.EngineLawful.completeHead (h : s.EngineLawful) (hwaits : s.req.head.waits) (o : LineOutcome) (n : Nat)
    (reply : Reply) : ((s.setReqClaim none).completeHead o n reply).EngineLawful := by
  cases hq : s.req.queue with
  | nil => exact absurd hq (h.head hwaits.ne_untaken)
  | cons q behind =>
    have hleaves := h.headLeaves hwaits (written := [q.completion o n reply]) (Nat.le_refl 1) (queue := behind)
      (by rw [hq]; exact List.sublist_cons_self q behind)
    exact hleaves.of_ledger (by simp only [State.completeHead, State.setReqClaim_req, hq]; rfl)

/-- A claim of the engine is for a request (R138). -/
theorem Request.claim_isRequest (q : Request) (n : Nat) (roster : Roster) : (q.claim n roster).isRequest = true := by
  unfold Request.claim
  cases q.kind <;> rfl

/-- The engine's claim is placed for a head that holds a reservation, and no attempt of a request is on the line (R136). -/
theorem State.EngineLawful.headWaits (h : s.EngineLawful) {record : Option Record} {c : Claim} {head : HeadCondition}
    {reservations : Nat} (hrequest : (record.map Record.owner).any RecordOwner.isRequest = false)
    (hround : record.map Record.owner = some .discovery ↔ s.disc.isRound = true) (hc : c.isRequest = true)
    (hwaits : head.waits) (hqueue : s.req.queue ≠ []) (hheld : reservations = 1 + if s.disc.active then 1 else 0)
    (hroom : s.req.completions.length + reservations ≤ 16) :
    State.EngineLawful { s with
      line := { s.line with record := record, reqClaim := some c }
      req := { s.req with head := head, reservations := reservations } } := by
  constructor
  · show (record.map Record.owner).any RecordOwner.isRequest = true ↔ head = .onLine
    rw [hrequest]
    exact ⟨Bool.noConfusion, fun heq => absurd heq hwaits.ne_onLine⟩
  · exact ⟨fun _ => hwaits, fun _ => rfl⟩
  · rintro c' ⟨⟩; exact hc
  · exact hround
  · exact h.roundClaim
  · exact fun _ => hqueue
  · show reservations = (if head = .untaken then 0 else 1) + if s.disc.active then 1 else 0
    rw [if_neg hwaits.ne_untaken]
    exact hheld
  · exact hroom
  · exact h.queue

/-- The head is taken up and CLAIMED with a reservation (R136). -/
theorem State.EngineLawful.headTaken (h : s.EngineLawful) (hmay : s.mayTakeUp = true) (hqueue : s.req.queue ≠ [])
    {c : Claim} (hc : c.isRequest = true) :
    (((s.setReservations (s.req.reservations + 1)).setReqClaim (some c)).setHead .claimed).EngineLawful := by
  simp only [State.mayTakeUp, Bool.and_eq_true, beq_iff_eq, decide_eq_true_eq] at hmay
  obtain ⟨⟨-, hhead⟩, hroom⟩ := hmay
  have hheld := h.reservations
  simp only [State.heldReservations, hhead, if_true] at hheld
  have hrequest : s.recordOwner.any RecordOwner.isRequest = false :=
    Bool.eq_false_iff.2 fun hon => by rw [h.onLine.1 hon] at hhead; cases hhead
  exact h.headWaits (record := s.line.record) (reservations := s.req.reservations + 1) hrequest h.round hc
    HeadCondition.waits_claimed hqueue (by omega) (by omega)

/-- The attempt of the head is over, and a retry is claimed (R140). -/
theorem State.EngineLawful.attemptOver (h : s.EngineLawful) (hhead : s.req.head = .onLine) {c : Claim}
    (hc : c.isRequest = true) (o : LineOutcome) (n : Nat) :
    (((s.setRecord none).setReqClaim (some c)).setHead (.retryWaiting o n)).EngineLawful := by
  have hheld := h.reservations
  simp only [State.heldReservations, hhead, reduceCtorEq, if_false] at hheld
  have hround : s.disc.isRound = false := Bool.eq_false_iff.2 fun hround => by
    have hon := h.onLine.2 hhead
    rw [h.round.2 hround] at hon
    cases hon
  exact h.headWaits (record := none) (reservations := s.req.reservations) rfl (by simp [hround]) hc
    (HeadCondition.waits_retry o n) (h.head (by simp [hhead])) hheld h.room

/-! ### Sweeps (R83, R84, R96) -/

/-- A unit that is SWEEPING ends its sweep (R96). -/
theorem State.EngineLawful.endSweep (h : s.EngineLawful) (hsweeping : s.disc.isSweeping = true) (sw : Sweep) (o : LineOutcome) :
    (s.endSweep sw o).EngineLawful := by
  obtain ⟨sw', hd⟩ : ∃ sw', s.disc = .sweeping sw' := by
    cases hd : s.disc with
    | sweeping sw' => exact ⟨sw', rfl⟩
    | _ => rw [hd] at hsweeping; cases hsweeping
  have hheld := h.reservations
  have hroom := h.room
  simp only [State.heldReservations, hd, Discovery.active, if_true] at hheld
  have hidle : s.disc.isRound = false := by rw [hd]; rfl
  constructor
  · exact h.onLine
  · exact h.claim
  · exact h.claimOwner
  · exact ⟨fun hround => absurd (h.round.1 hround) (by simp [hidle]), nofun⟩
  · exact ⟨nofun, nofun⟩
  · exact h.head
  · show s.req.reservations - 1 = (if s.req.head = .untaken then 0 else 1) + 0
    omega
  · show (s.req.completions ++ [_]).length + (s.req.reservations - 1) ≤ 16
    simp only [List.length_append, List.length_singleton]
    omega
  · refine ⟨h.queue.1, h.queue.2.sublist ?_⟩
    exact (List.Sublist.refl _).append (List.nil_sublist _)

/-- The unit is SWEEPING with its claim placed, in a state that is lawful so: it stays, or the window check ends the
sweep (R85). -/
theorem State.EngineLawful.placeRound {sw : Sweep} (h : ((s.setDisc (.sweeping sw)).setRoundClaim true).EngineLawful) :
    (s.placeRound sw).EngineLawful := by
  unfold State.placeRound
  split
  · exact h
  · exact h.endSweep rfl sw .windowTooShort

/-- A DISCOVER is taken up: its reservation and its tag pass to the sweep (R84, R135). -/
theorem State.EngineLawful.sweepTaken (h : s.EngineLawful) (hmay : s.mayTakeUp = true) (hidle : s.disc.active = false)
    {q : Request} {behind : List Request} (hq : s.req.queue = q :: behind) :
    ((((s.setReservations (s.req.reservations + 1)).setQueue behind).setDisc (.sweeping { tag := q.tag })).setRoundClaim
      true).EngineLawful := by
  simp only [State.mayTakeUp, Bool.and_eq_true, beq_iff_eq, decide_eq_true_eq] at hmay
  obtain ⟨⟨-, hhead⟩, hroom⟩ := hmay
  have hd : s.disc = .idle := by
    cases hd : s.disc with
    | idle => rfl
    | _ => rw [hd] at hidle; cases hidle
  have hheld := h.reservations
  simp only [State.heldReservations, hhead, hidle, if_true, Bool.false_eq_true, if_false] at hheld
  have hround : s.disc.isRound = false := by rw [hd]; rfl
  obtain ⟨hlength, htags⟩ := h.queue
  rw [State.tagsInUse, hq, hd] at htags
  rw [hq] at hlength
  constructor
  · exact h.onLine
  · exact h.claim
  · exact h.claimOwner
  · exact ⟨fun hr => absurd (h.round.1 hr) (by simp [hround]), nofun⟩
  · exact ⟨fun _ => rfl, fun _ => rfl⟩
  · exact fun hne => absurd hhead hne
  · show s.req.reservations + 1 = (if s.req.head = .untaken then 0 else 1) + 1
    rw [if_pos hhead]
    omega
  · show s.req.completions.length + (s.req.reservations + 1) ≤ 16
    omega
  · refine ⟨Nat.le_of_succ_le hlength, ?_⟩
    show (behind.map Request.tag ++ [q.tag]).Nodup
    rw [List.nodup_append_comm]
    simpa [Discovery.tag] using htags

/-! ### Take-up, outcomes, the opening of a window, leaving RUNNING (R136, R139, R140, R147) -/

/-- A DISCOVER is taken up by an IDLE unit alone (R84, R137). -/
theorem State.not_active_of_sweep {q : Request} (h : s.headCourse q = .sweep) : s.disc.active = false := by
  unfold State.headCourse at h
  repeat' split at h
  all_goals simp_all

theorem State.EngineLawful.takeUpFuel (n : Nat) (h : s.EngineLawful) : (s.takeUpFuel n).EngineLawful := by
  induction n generalizing s with
  | zero => exact h
  | succ n ih =>
    unfold State.takeUpFuel
    split
    · exact h
    · next q behind hq =>
      split
      · next hmay =>
        have hne : s.req.queue ≠ [] := by simp [hq]
        have htaken := h.headTaken hmay hne (q.claim_isRequest 1 s.roster)
        dsimp only
        split
        · next o _ =>
          have hhead : ¬ s.req.head.waits := fun hwaits => by
            simp only [State.mayTakeUp, Bool.and_eq_true, beq_iff_eq] at hmay
            exact hwaits.ne_untaken hmay.1.2
          refine ih ((htaken.completeHead HeadCondition.waits_claimed o 0 {}).of_ledger ?_)
          simp [State.completeHead, hq, State.ledger, State.recordOwner, h.reqClaim_none hhead, State.setHead,
            State.setReqClaim, State.writeCompletion, State.setReservations]
        · next hcourse =>
          exact ih (State.EngineLawful.placeRound (h.sweepTaken hmay (State.not_active_of_sweep hcourse) hq))
        · exact htaken
      · exact h

theorem State.EngineLawful.takeUp (h : s.EngineLawful) : s.takeUp.EngineLawful := h.takeUpFuel _

theorem State.EngineLawful.finishHead (h : s.EngineLawful) (hwaits : s.req.head.waits) (o : LineOutcome) (n : Nat)
    (reply : Reply) : (s.finishHead o n reply).EngineLawful := (h.completeHead hwaits o n reply).takeUp

/-- The outcome of the head's attempt, as the record ceases to exist: a retry is claimed or the head completes (R140, R141). -/
theorem State.EngineLawful.reqOutcome (h : s.EngineLawful) (hhead : s.req.head = .onLine) (roster : Roster) (o : LineOutcome)
    (n : Nat) (reply : Reply) : (((s.setRecord none).setRoster roster).reqOutcome o n reply).EngineLawful := by
  cases hq : s.req.queue with
  | nil => exact absurd hq (h.head (by simp [hhead]))
  | cons q behind =>
    have hretry := (h.attemptOver hhead (q.claim_isRequest (n + 1) roster) o n).of_ledger
      (State.setRoster_ledger _ roster)
    have hfinish := hretry.completeHead (HeadCondition.waits_retry o n) o n reply
    unfold State.reqOutcome
    simp only [State.setRoster_req, State.setRecord_req, hq]
    split
    · exact hretry
    · refine State.EngineLawful.takeUp (hfinish.of_ledger ?_)
      simp only [State.completeHead, State.setReqClaim, State.setHead, State.setRoster, State.setRecord, hq]
      rfl

theorem State.EngineLawful.reqWindowOpens (h : s.EngineLawful) : s.reqWindowOpens.EngineLawful := by
  unfold State.reqWindowOpens
  split
  · exact h
  split
  · next hhead =>
    have hwaits : s.req.head.waits := hhead ▸ HeadCondition.waits_claimed
    split
    · exact h.finishHead hwaits _ _ _
    split
    · exact h.finishHead hwaits _ _ _
    · exact h
  · next o n hhead =>
    split
    · exact h.finishHead (hhead ▸ HeadCondition.waits_retry o n) _ _ _
    · exact h
  · exact h
  · exact h

/-- A head that waits leaves the queue, or goes back to UNTAKEN in it, and writes nothing (R146, R147). -/
theorem State.EngineLawful.headWithdrawn (h : s.EngineLawful) (hwaits : s.req.head.waits) {queue : List Request}
    (hqueue : queue.Sublist s.req.queue) :
    ((((s.setReqClaim none).setReservations (s.req.reservations - 1)).setQueue queue).setHead .untaken).EngineLawful :=
  (h.headLeaves hwaits (written := []) (Nat.zero_le 1) hqueue).of_ledger (by
    rw [List.append_nil]; rfl)

theorem State.EngineLawful.reqLeave (h : s.EngineLawful) : s.reqLeave.EngineLawful := by
  unfold State.reqLeave
  split
  · next hhead => exact h.headWithdrawn (hhead ▸ HeadCondition.waits_claimed) (List.Sublist.refl _)
  · next o n hhead => exact h.finishHead (hhead ▸ HeadCondition.waits_retry o n) o n {}
  · exact h
  · exact h

theorem State.EngineLawful.endSweeping (h : s.EngineLawful) (o : LineOutcome) : (s.endSweeping o).EngineLawful := by
  unfold State.endSweeping
  split
  · next sw hd => exact h.endSweep (by rw [hd]; rfl) sw o
  · exact h
  · exact h

/-- The engine's part and the unit's part of a change of run state, in either order. -/
theorem State.EngineLawful.engineAndUnit (h : s.EngineLawful) (both : Bool) {engine unit : State → State}
    (hengine : ∀ u : State, u.EngineLawful → (engine u).EngineLawful)
    (hunit : ∀ u : State, u.EngineLawful → (unit u).EngineLawful) : (s.engineAndUnit both engine unit).EngineLawful := by
  have hfree : s.nextFree.EngineLawful := h.of_ledger rfl
  unfold State.engineAndUnit
  split
  · split
    · exact hunit _ (hengine _ hfree)
    · exact hengine _ (hunit _ hfree)
  · exact hunit _ (hengine _ h)

theorem State.EngineLawful.ownersLeave (h : s.EngineLawful) (o : LineOutcome) : (s.ownersLeave o).EngineLawful :=
  h.engineAndUnit _ (fun _ hu => hu.reqLeave) fun _ hu => hu.endSweeping o

/-! ### SUBMIT, CANCEL, POP_COMPLETION (R134, R145, R146) -/

/-- A request accepted by the checks is appended with a tag of its own, in a queue with room (R134). -/
theorem State.EngineLawful.append (h : s.EngineLawful) {q : StagedRequest} {k : ReqKind} (hchecks : s.submitChecks q = .ok k) :
    (s.setQueue (s.req.queue ++ [q.record k])).EngineLawful := by
  have htag : (q.record k).tag = q.tag := by cases k <;> rfl
  obtain ⟨hroom, hnew⟩ : s.req.queue.length < 16 ∧ q.tag ∉ s.tagsInUse := by
    unfold State.submitChecks at hchecks
    split at hchecks
    · cases hchecks
    split_ifs at hchecks with h1 h2 h3 h4 h5 hdup hfull h8 h9
    simp only [Bool.or_eq_true, List.any_eq_true, beq_iff_eq, not_or, not_exists, not_and] at hdup
    refine ⟨by omega, ?_⟩
    rw [State.tagsInUse, List.mem_append, List.mem_map, Option.mem_toList]
    rintro (⟨r, hr, htag⟩ | htag)
    · exact hdup.1 r hr htag
    · exact hdup.2 htag
  obtain ⟨-, htags⟩ := h.queue
  constructor
  · exact h.onLine
  · exact h.claim
  · exact h.claimOwner
  · exact h.round
  · exact h.roundClaim
  · exact fun _ => by simp
  · exact h.reservations
  · exact h.room
  · refine ⟨by simp; omega, ?_⟩
    show ((s.req.queue ++ [q.record k]).map Request.tag ++ s.disc.tag.toList).Nodup
    have hperm : ((s.req.queue ++ [q.record k]).map Request.tag ++ s.disc.tag.toList).Perm (q.tag :: s.tagsInUse) := by
      simp only [State.tagsInUse, List.map_append, List.map_cons, List.map_nil, htag, List.append_assoc,
        List.singleton_append]
      exact List.perm_middle
    exact hperm.nodup_iff.2 (List.nodup_cons.2 ⟨hnew, htags⟩)

theorem State.EngineLawful.submit (h : s.EngineLawful) : s.submit.EngineLawful := by
  unfold State.submit
  dsimp only
  split
  · exact h.of_ledger rfl
  · next k hchecks =>
    have happend : ∀ n, ((s.setQueue (s.req.queue ++ [s.host.stagedRequest.record k])).setResult .done n).EngineLawful :=
      fun n => (h.append hchecks).of_ledger (State.setResult_ledger _ _ _)
    split
    · exact (happend _).takeUp
    · exact happend _

/-- A request behind the head, or an UNTAKEN head, leaves the queue (R146). -/
theorem State.EngineLawful.dequeue (h : s.EngineLawful) {queue : List Request} (hqueue : queue.Sublist s.req.queue)
    (hhead : s.req.head ≠ .untaken → queue ≠ []) : (s.setQueue queue).EngineLawful := by
  refine ⟨h.onLine, h.claim, h.claimOwner, h.round, h.roundClaim, hhead, h.reservations, h.room, ?_, ?_⟩
  · exact hqueue.length_le.trans h.queue.1
  · exact h.queue.2.sublist ((hqueue.map _).append_right _)

theorem State.EngineLawful.cancelHead (h : s.EngineLawful) : s.cancelHead.EngineLawful := by
  unfold State.cancelHead
  split
  · next hhead =>
    have hleft := h.dequeue (List.tail_sublist _) fun hne => absurd hhead hne
    exact State.EngineLawful.takeUp (hleft.of_ledger (State.setResult_ledger _ _ _))
  · next hhead =>
    have hleft := h.headWithdrawn (hhead ▸ HeadCondition.waits_claimed) (List.tail_sublist _)
    exact State.EngineLawful.takeUp (hleft.of_ledger (State.setResult_ledger _ _ _))
  · exact h.of_ledger rfl
  · exact h.of_ledger rfl

/-- A round in flight goes on with another sweep record or round state, its tag kept (R83). -/
theorem State.EngineLawful.inRound (h : s.EngineLawful) {sw sw' : Sweep} {rd rd' : Round} (hd : s.disc = .inRound sw rd)
    (htag : sw'.tag = sw.tag) : (s.setDisc (.inRound sw' rd')).EngineLawful := by
  have hround := h.round
  have hclaim := h.roundClaim
  have hheld := h.reservations
  have hqueue := h.queue
  rw [hd] at hround hclaim
  rw [State.heldReservations, hd] at hheld
  rw [State.tagsInUse, hd] at hqueue
  refine ⟨h.onLine, h.claim, h.claimOwner, hround, hclaim, h.head, hheld, h.room, hqueue.1, ?_⟩
  simp only [State.tagsInUse, State.setDisc_disc, Discovery.tag, htag]
  exact hqueue.2

theorem State.EngineLawful.cancelSweep (h : s.EngineLawful) : s.cancelSweep.EngineLawful := by
  unfold State.cancelSweep
  split
  · next sw hd => exact h.endSweep (by rw [hd]; rfl) _ _
  · next sw rd hd => exact h.inRound hd rfl
  · exact h

theorem State.EngineLawful.cancel (h : s.EngineLawful) : s.cancel.EngineLawful := by
  unfold State.cancel
  dsimp only
  split
  · exact h.of_ledger rfl
  split
  · exact h.cancelHead
  · next i hi =>
    have hlt : i + 1 < s.req.queue.length := (List.findIdx?_eq_some_iff_getElem.1 hi).1
    have hqueue := h.dequeue (queue := s.req.queue.eraseIdx (i + 1)) (List.eraseIdx_sublist _ _) fun _ hnil => by
      have hlength := List.length_eraseIdx_of_lt hlt
      rw [hnil, List.length_nil] at hlength
      omega
    exact hqueue.of_ledger rfl
  · split
    · exact h.cancelSweep.of_ledger rfl
    · exact h.of_ledger rfl

theorem State.EngineLawful.popCompletion (h : s.EngineLawful) : s.popCompletion.EngineLawful := by
  unfold State.popCompletion
  split
  · exact h.of_ledger rfl
  · next c rest hc =>
    have hroom := h.room
    rw [hc, List.length_cons] at hroom
    have hpopped : State.EngineLawful { s with req := { s.req with completions := rest } } :=
      ⟨h.onLine, h.claim, h.claimOwner, h.round, h.roundClaim, h.head, h.reservations,
        by show rest.length + s.req.reservations ≤ 16; omega, h.queue⟩
    exact State.EngineLawful.takeUp (hpopped.of_ledger (State.setResult_ledger _ _ _))

/-! ### Rounds (R87 to R95) -/

theorem State.EngineLawful.discPhase (h : s.EngineLawful) (p : RoundPhase) : (s.discPhase p).EngineLawful := by
  unfold State.discPhase
  split
  · next sw rd hd => exact h.inRound hd rfl
  · exact h
  · exact h

theorem State.EngineLawful.discFaultSeen (h : s.EngineLawful) : s.discFaultSeen.EngineLawful := by
  unfold State.discFaultSeen
  split
  · next sw rd hd => exact h.inRound hd rfl
  · exact h
  · exact h

theorem Sweep.counted_tag (sw : Sweep) (prior : StationState) : (sw.counted prior).tag = sw.tag := by
  unfold Sweep.counted
  split <;> rfl

theorem State.EngineLawful.discDecide (h : s.EngineLawful) (ident : Ident) (check : Byte) :
    (s.discDecide ident check).2.EngineLawful := by
  unfold State.discDecide
  split
  · next sw rd hd =>
    dsimp only
    split
    · exact h.inRound hd rfl
    split
    · exact h.inRound hd rfl
    split
    · exact (h.inRound (sw' := { sw with consecutiveNoisy := 0 }) hd rfl).of_ledger rfl
    · exact h.inRound hd rfl
  · exact h
  · exact h

theorem State.EngineLawful.discAssignOutcome (h : s.EngineLawful) (o : LineOutcome) : (s.discAssignOutcome o).EngineLawful := by
  unfold State.discAssignOutcome
  split
  · next sw rd hd =>
    split
    · exact (h.inRound hd rfl).of_ledger rfl
    · exact (h.inRound hd (Sweep.counted_tag sw _)).of_ledger rfl
  · exact h
  · exact h

theorem State.EngineLawful.discLineError (h : s.EngineLawful) : s.discLineError.EngineLawful := by
  unfold State.discLineError
  split
  · next sw rd hd =>
    dsimp only
    split
    · exact (h.inRound (sw' := sw.noisier) hd rfl).of_ledger rfl
    · exact h.inRound hd rfl
  · exact h
  · exact h

theorem State.EngineLawful.discAborted (h : s.EngineLawful) : s.discAborted.EngineLawful := by
  unfold State.discAborted
  split
  · next sw rd hd =>
    dsimp only
    split
    · exact (h.inRound (sw' := sw) hd rfl).of_ledger rfl
    · exact h.inRound hd rfl
  · exact h
  · exact h

/-- The record of a round ceases to exist, and the unit is SWEEPING with its claim placed (R95). -/
theorem State.EngineLawful.roundOver (h : s.EngineLawful) {sw : Sweep} {rd : Round} (hd : s.disc = .inRound sw rd) :
    (((s.setRecord none).setDisc (.sweeping sw)).setRoundClaim true).EngineLawful := by
  have hheld := h.reservations
  have hqueue := h.queue
  rw [State.heldReservations, hd] at hheld
  rw [State.tagsInUse, hd] at hqueue
  have howner : s.recordOwner = some .discovery := h.round.2 (by rw [hd]; rfl)
  have hhead : s.req.head ≠ .onLine := fun hon => by
    have hrequest := h.onLine.2 hon
    rw [howner] at hrequest
    cases hrequest
  exact ⟨⟨nofun, fun hon => absurd hon hhead⟩, h.claim, h.claimOwner, ⟨nofun, nofun⟩, ⟨fun _ => rfl, fun _ => rfl⟩,
    h.head, hheld, h.room, hqueue⟩

/-- A round in flight ends: its sweep ends or claims its next round (R95). -/
theorem State.EngineLawful.discRoundEnd (h : s.EngineLawful) (howner : s.recordOwner = some .discovery) :
    (s.setRecord none).discRoundEnd.EngineLawful := by
  obtain ⟨sw, rd, hd⟩ : ∃ sw rd, s.disc = .inRound sw rd := by
    have hround := h.round.1 howner
    cases hd : s.disc with
    | inRound sw rd => exact ⟨sw, rd, rfl⟩
    | _ => rw [hd] at hround; cases hround
  have hover := h.roundOver hd
  unfold State.discRoundEnd
  simp only [State.setRecord_disc, hd]
  split
  · exact hover.endSweep rfl sw _
  · exact hover.placeRound

theorem State.discLineError_setRecord (s : State) (r : Option Record) :
    (s.setRecord r).discLineError = s.discLineError.setRecord r := by
  unfold State.discLineError
  rw [State.setRecord_disc]
  split
  · dsimp only
    split <;> rfl
  · rfl
  · rfl

theorem State.discAborted_setRecord (s : State) (r : Option Record) :
    (s.setRecord r).discAborted = s.discAborted.setRecord r := by
  unfold State.discAborted
  rw [State.setRecord_disc]
  split
  · dsimp only
    split <;> rfl
  · rfl
  · rfl

theorem State.discLineError_recordOwner (s : State) : s.discLineError.recordOwner = s.recordOwner :=
  congrArg (fun v : RoundView => v.record.map Record.owner) s.discLineError_view

theorem State.discAborted_recordOwner (s : State) : s.discAborted.recordOwner = s.recordOwner :=
  congrArg (fun v : RoundView => v.record.map Record.owner) s.discAborted_view

/-! ### The Line Sequencer (R64 to R80) -/

theorem State.EngineLawful.enterFaulted (h : s.EngineLawful) : s.enterFaulted.EngineLawful := by
  have hleft : ((((s.setRunState .faulted).setTimer s.timer.close).setBeaconPending false).schedLeave).EngineLawful :=
    h.of_ledger rfl
  exact (hleft.ownersLeave .lineError).discFaultSeen

theorem State.EngineLawful.echoError (h : s.EngineLawful) : s.echoError.EngineLawful := by
  have hcounted : ∀ n m, State.EngineLawful { s with line := { s.line with echoCount := n, lineErrors := m } } :=
    fun n m => h.of_ledger rfl
  unfold State.echoError
  dsimp only
  split
  · exact (hcounted _ _).enterFaulted
  · exact hcounted _ _

/-- A frame fails with the record it is sent for in flight (R63, R71, R78). -/
theorem State.EngineLawful.failFrame {r : Record} (h : (s.setRecord (some r)).EngineLawful) (offGrid : Bool) :
    (s.failFrame r offGrid).EngineLawful := by
  have hecho : ((s.setRecord (some { r.close (some .lineError) offGrid with after := .finish })).echoError).EngineLawful :=
    State.EngineLawful.echoError (h.of_ledger rfl)
  unfold State.failFrame
  dsimp only
  split
  · exact hecho.discLineError
  · exact hecho

theorem State.EngineLawful.driveFrame {r : Record} (h : (s.setRecord (some r)).EngineLawful) :
    (s.driveFrame r).EngineLawful := by
  unfold State.driveFrame
  split
  · exact h.of_ledger rfl
  · exact h.failFrame false

/-- What a grant decision grants is placed, and its reservation is at most the bit times left (R65, R66). -/
def State.Grantable (s : State) : Grant → Prop
  | .beacon => beaconReservation ≤ s.timer.left
  | .sched c => s.line.schedClaim = some c ∧ c.reservation s.rw ≤ s.timer.left
  | .request c => s.line.reqClaim = some c ∧ c.reservation s.rw ≤ s.timer.left
  | .round => s.line.roundClaim = true ∧ roundReservation s.rw ≤ s.timer.left

theorem State.arbiter_grantable {g : Grant} (hg : s.arbiter = some g) : s.Grantable g := by
  have hrequest : ∀ {g}, (match s.line.reqClaim with
      | some c => if s.fits (c.reservation s.rw) then some (Grant.request c) else none
      | none => none) = some g → s.Grantable g := by
    intro g hg
    split at hg
    · next c hc =>
      split at hg
      · next hfits => cases hg; exact ⟨hc, of_decide_eq_true hfits⟩
      · cases hg
    · cases hg
  have hround : ∀ {g}, (if s.line.roundClaim && s.fits (roundReservation s.rw) then some Grant.round else none) = some g →
      s.Grantable g := by
    intro g hg
    split at hg
    · next hready =>
      cases hg
      rw [Bool.and_eq_true] at hready
      exact ⟨hready.1, of_decide_eq_true hready.2⟩
    · cases hg
  unfold State.arbiter at hg
  dsimp only at hg
  split at hg
  · next a b ha hb =>
    split at hg
    · cases hg; exact hround hb
    · cases hg; exact hrequest ha
  · next a ha hb => cases hg; exact hrequest ha
  · exact hround hg

/-- A claim is granted in a window alone (R65). -/
theorem State.decision_grantable {g : Grant} (hg : s.decision = some g) :
    s.timer.window ≠ .noWindow ∧ s.Grantable g := by
  unfold State.decision at hg
  split at hg
  · cases hg
  · next hw =>
    refine ⟨by simp [hw], ?_⟩
    split at hg
    · split at hg
      · next hfits => cases hg; exact of_decide_eq_true (p := beaconReservation ≤ s.timer.left) hfits
      · cases hg
    · split at hg
      · next c hc =>
        split at hg
        · next hfits => cases hg; exact ⟨hc, of_decide_eq_true hfits⟩
        · cases hg
      · cases hg
  · next hw => exact ⟨by simp [hw], State.arbiter_grantable hg⟩

/-- With nothing in flight no attempt of the head is on the line and no round runs (R83, R136). -/
theorem State.EngineLawful.lineFree_owners (h : s.EngineLawful) (hfree : s.line.record = none) :
    s.req.head ≠ .onLine ∧ s.disc.isRound = false := by
  have hnone : s.recordOwner = none := by rw [State.recordOwner, hfree]; rfl
  refine ⟨fun hon => ?_, Bool.eq_false_iff.2 fun hround => ?_⟩
  · have hrequest := h.onLine.2 hon
    rw [hnone] at hrequest
    cases hrequest
  · have howner := h.round.2 hround
    rw [hnone] at howner
    cases howner

/-- A grant with nothing in flight: the claim becomes the record (R65, R87, R140). -/
theorem State.EngineLawful.grant (h : s.EngineLawful) (hfree : s.line.record = none) {g : Grant} (hg : s.Grantable g) :
    (s.grant g).EngineLawful := by
  obtain ⟨hhead, hround⟩ := h.lineFree_owners hfree
  have hother : ∀ r : Record, r.owner.isRequest = false → r.owner ≠ .discovery →
      (s.setRecord (some r)).EngineLawful := by
    intro r hrequest hdisc
    refine ⟨⟨fun hon => ?_, fun hon => absurd hon hhead⟩, h.claim, h.claimOwner,
      ⟨fun howner => absurd (Option.some.inj howner) hdisc, fun hr => ?_⟩, h.roundClaim, h.head, h.reservations, h.room,
      h.queue⟩
    · exact absurd (show r.owner.isRequest = true from hon) (by simp [hrequest])
    · rw [State.setRecord_disc, hround] at hr
      cases hr
  cases g with
  | beacon => exact State.EngineLawful.driveFrame ((hother (beaconRecord s.timer.cycle) rfl nofun).of_ledger rfl)
  | sched c =>
    unfold State.grant
    dsimp only
    split
    · next n hc =>
      refine State.EngineLawful.driveFrame ((hother (c.record (s.mailbox n).data s.rw) ?_ nofun).of_ledger rfl)
      simp only [Claim.record, hc]
      rfl
    · exact h
  | request c =>
    obtain ⟨hplaced, -⟩ := hg
    have hwaits : s.req.head.waits := h.claim.1 (by rw [hplaced]; rfl)
    have hheld := h.reservations
    rw [State.heldReservations, if_neg hwaits.ne_untaken] at hheld
    exact State.EngineLawful.driveFrame ⟨⟨fun _ => rfl, fun _ => h.claimOwner c hplaced⟩,
      ⟨nofun, fun hw => absurd hw HeadCondition.not_waits_onLine⟩, nofun,
      ⟨nofun, fun hr => Bool.noConfusion (hround.symm.trans hr)⟩,
      h.roundClaim, fun _ => h.head hwaits.ne_untaken, hheld, h.room, h.queue⟩
  | round =>
    obtain ⟨hplaced, -⟩ := hg
    have hsweeping := h.roundClaim.1 hplaced
    cases hd : s.disc with
    | sweeping sw =>
      have hgranted : State.discGranted ((s.setRoundClaim false).setLastGrant .discovery) =
          ((s.setRoundClaim false).setLastGrant .discovery).setDisc
            (.inRound { sw with rounds := satSucc 65535 sw.rounds } {}) := by
        simp only [State.discGranted, State.setLastGrant_disc, State.setRoundClaim_disc, hd]
      have hheld := h.reservations
      have hqueue := h.queue
      rw [State.heldReservations, hd] at hheld
      rw [State.tagsInUse, hd] at hqueue
      show (State.driveFrame _ (roundRecord s.rw)).EngineLawful
      rw [hgranted]
      exact State.EngineLawful.driveFrame ⟨⟨nofun, fun hon => absurd hon hhead⟩, h.claim, h.claimOwner,
        ⟨fun _ => rfl, fun _ => rfl⟩, ⟨nofun, nofun⟩, h.head, hheld, h.room, hqueue⟩
    | _ => rw [hd] at hsweeping; cases hsweeping

theorem State.EngineLawful.decideGrant (h : s.EngineLawful) : s.decideGrant.EngineLawful := by
  have hboundary : (s.setBoundary false).EngineLawful := h.of_ledger rfl
  unfold State.decideGrant
  split
  · exact h
  · refine State.EngineLawful.of_ledger ?_ (State.chooseAtBoundary_ledger _)
    unfold State.grantDecided
    split
    · next hmay =>
      have hfree : s.line.record = none := by
        simp only [State.mayGrant, Bool.and_eq_true, Option.isNone_iff_eq_none] at hmay
        exact hmay.1.2
      split
      · next g hg => exact hboundary.grant hfree (State.decision_grantable hg).2
      · exact hboundary
    · exact hboundary

/-- An event of the transaction in flight keeps the laws where it occurs. -/
theorem State.EngineLawful.onRecord (h : s.EngineLawful) {may : Record → Bool} {event : Record → State}
    (hevent : ∀ r, s.line.record = some r → may r = true → (event r).EngineLawful) :
    (s.onRecord may event).EngineLawful := by
  unfold State.onRecord
  split
  · next r hr =>
    split
    · next hmay => exact hevent r hr hmay
    · exact h
  · exact h

/-- The record of the transaction in flight in another phase (R63). -/
theorem State.EngineLawful.setRecord (h : s.EngineLawful) {r r' : Record} (hr : s.line.record = some r)
    (howner : r'.owner = r.owner) : (s.setRecord (some r')).EngineLawful :=
  h.of_ledger (s.setRecord_ledger hr howner)

theorem State.EngineLawful.classify (h : s.EngineLawful) {r r' : Record} (hr : s.line.record = some r)
    (howner : r'.owner = r.owner) (o : LineOutcome) (reply : Reply) : (s.classify r' o reply).EngineLawful := by
  unfold State.classify
  dsimp only
  split
  · refine State.EngineLawful.discAssignOutcome ?_ o
    exact h.setRecord hr howner
  · exact h.setRecord hr howner

theorem State.EngineLawful.frameSent (h : s.EngineLawful) {r : Record} (hr : s.line.record = some r) :
    (s.frameSent r).EngineLawful := by
  have hecho : (s.setEchoCount 0).EngineLawful := h.of_ledger rfl
  unfold State.frameSent
  dsimp only
  split
  · exact hecho.setRecord hr rfl
  · exact hecho.setRecord hr rfl

theorem State.discDecide_line (s : State) (ident : Ident) (check : Byte) : (s.discDecide ident check).2.line = s.line := by
  unfold State.discDecide
  dsimp only
  repeat' split
  all_goals rfl

theorem State.EngineLawful.checkSlotsEnd (h : s.EngineLawful) : s.checkSlotsEnd.EngineLawful := by
  refine h.onRecord fun r hr _ => ?_
  have hrecord : (s.discDecide r.heardIdentity r.heardCheck).2.line.record = some r := by rw [State.discDecide_line, hr]
  exact (h.discDecide r.heardIdentity r.heardCheck).setRecord hrecord rfl

/-! ### The end of a transaction (R76 to R80, R95, R156) -/

/-- A transaction that is no attempt of a request and no round ceases to exist. -/
theorem State.EngineLawful.recordEnds (h : s.EngineLawful) {owner : RecordOwner} (howner : s.recordOwner = some owner)
    (hrequest : owner.isRequest = false) (hround : owner ≠ .discovery) : (s.setRecord none).EngineLawful := by
  have hhead : s.req.head ≠ .onLine := fun hon => by
    have hline := h.onLine.2 hon
    rw [howner, Option.any_some, hrequest] at hline
    cases hline
  have hdisc : s.disc.isRound = false := Bool.eq_false_iff.2 fun hr =>
    hround (Option.some.inj (howner.symm.trans (h.round.2 hr)))
  exact ⟨⟨nofun, fun hon => absurd hon hhead⟩, h.claim, h.claimOwner,
    ⟨nofun, fun hr => Bool.noConfusion (hdisc.symm.trans hr)⟩, h.roundClaim, h.head, h.reservations, h.room, h.queue⟩


/-- The outcome of an attempt: its record ceases to exist, and its owner takes the outcome (R76). -/
theorem State.EngineLawful.deliver (h : s.EngineLawful) {r : Record} (hr : s.line.record = some r) {c : ClaimOwner}
    (howner : r.owner = .claim c) (o : LineOutcome) : (s.deliver r o).EngineLawful := by
  have hrecord : s.recordOwner = some (.claim c) := by rw [State.recordOwner, hr, Option.map_some, howner]
  unfold State.deliver
  cases c with
  | scheduler n =>
    simp only [howner]
    refine (h.recordEnds hrecord rfl nofun).of_ledger ?_
    rw [State.schedOutcome_ledger]
    rfl
  | request tag =>
    simp only [howner]
    exact h.reqOutcome (h.onLine.1 (by rw [hrecord]; rfl)) _ o r.attempt r.reply

theorem State.EngineLawful.lineFree (h : s.EngineLawful) : s.lineFree.EngineLawful := by
  unfold State.lineFree
  split
  · exact State.EngineLawful.reqLeave (h.of_ledger rfl)
  · exact h

theorem State.EngineLawful.finishRound (h : s.EngineLawful) {r : Record} (hr : s.line.record = some r)
    (howner : r.owner = .discovery) : (s.finishRound r).EngineLawful := by
  have hrecord : s.recordOwner = some .discovery := by rw [State.recordOwner, hr, Option.map_some, howner]
  unfold State.finishRound
  dsimp only
  split
  · rw [State.discLineError_setRecord]
    exact h.discLineError.discRoundEnd (s.discLineError_recordOwner.trans hrecord)
  · exact h.discRoundEnd hrecord

/-- The next frame of a round is driven with the round in flight (R78). -/
theorem State.EngineLawful.nextFrame (h : s.EngineLawful) {r r' : Record} (hr : s.line.record = some r)
    (howner : r'.owner = r.owner) : (s.driveFrame r').EngineLawful :=
  State.EngineLawful.driveFrame (h.setRecord hr howner)

theorem State.EngineLawful.gapEnd (h : s.EngineLawful) {r : Record} (hr : s.line.record = some r) :
    (s.gapEnd r).EngineLawful := by
  have hrecord : s.recordOwner = some r.owner := by rw [State.recordOwner, hr, Option.map_some]
  unfold State.gapEnd
  split
  · next howner =>
    rw [howner] at hrecord
    exact (h.recordEnds hrecord rfl nofun).lineFree
  · next howner => exact (h.deliver hr howner _).lineFree
  · next howner =>
    split
    · refine State.EngineLawful.discPhase ?_ .slots
      exact h.setRecord hr rfl
    · exact h.nextFrame hr rfl
    · exact h.nextFrame hr rfl
    · exact h.nextFrame hr rfl
    · exact (h.finishRound hr howner).lineFree.of_ledger (State.roundClaimSeen_ledger _)

theorem State.EngineLawful.closingGapEnd (h : s.EngineLawful) : s.closingGapEnd.EngineLawful := by
  refine h.onRecord fun r hr _ => ?_
  split
  · exact State.EngineLawful.gapEnd (h.of_ledger (s.setBoundary_ledger false)) hr
  · exact h.gapEnd hr

theorem State.EngineLawful.cutLine (h : s.EngineLawful) : s.cutLine.EngineLawful := by
  unfold State.cutLine
  split
  · exact h
  · next r hr =>
    have hrecord : s.recordOwner = some r.owner := by rw [State.recordOwner, hr, Option.map_some]
    split
    · next howner =>
      rw [howner] at hrecord
      exact h.recordEnds hrecord rfl nofun
    · next howner => exact h.deliver hr howner _
    · next howner =>
      rw [howner] at hrecord
      dsimp only
      split
      · rw [State.discLineError_setRecord, State.discAborted_setRecord]
        exact h.discLineError.discAborted.discRoundEnd
          ((State.discAborted_recordOwner _).trans (s.discLineError_recordOwner.trans hrecord))
      · rw [State.discAborted_setRecord]
        exact h.discAborted.discRoundEnd (s.discAborted_recordOwner.trans hrecord)

/-! ### The end of a bit time, the cycle start, Run Control (R53, R64, R151 to R160) -/

theorem State.EngineLawful.slotPhase (h : s.EngineLawful) : s.slotPhase.EngineLawful := by
  unfold State.slotPhase
  split
  · split
    · exact h.discPhase .check
    · exact h
  · exact h

theorem State.boundaryChoice_ledger (s : State) : s.boundaryChoice.ledger = s.ledger := by
  rw [State.boundaryChoice_frame]; rfl

theorem State.EngineLawful.bitTimeEnd (h : s.EngineLawful) (mid fin : Level) : (s.bitTimeEnd mid fin).EngineLawful := by
  have hcounted : (s.counted mid fin).EngineLawful := h.of_ledger (by
    have howner : (s.counted mid fin).recordOwner = s.recordOwner := by
      show (s.line.record.map fun r => r.tick fin).map Record.owner = s.line.record.map Record.owner
      rw [Option.map_map]
      rfl
    rw [State.ledger, howner]
    rfl)
  unfold State.bitTimeEnd
  split
  · exact hcounted.slotPhase.of_ledger (State.boundaryChoice_ledger _)
  · exact h

theorem State.EngineLawful.discCycleStart (h : s.EngineLawful) (applied : Bool) : (s.discCycleStart applied).EngineLawful := by
  unfold State.discCycleStart
  split
  · next sw hd =>
    split
    · next hplaced =>
      rw [Bool.and_eq_true] at hplaced
      refine State.EngineLawful.placeRound (h.of_ledger ?_)
      simp only [State.ledger, State.recordOwner, State.setRoundClaim_line, State.setDisc_line, hplaced.2, hd]
      rfl
    · exact h
  · exact h
  · exact h

theorem State.EngineLawful.cycleStart (h : s.EngineLawful) : s.cycleStart.EngineLawful := by
  unfold State.cycleStart
  dsimp only
  refine State.EngineLawful.discCycleStart ?_ _
  split
  · exact h.of_ledger (State.schedCycleStart_ledger _)
  · exact h.of_ledger (State.schedCycleStart_ledger _)

theorem State.EngineLawful.enterRunning (h : s.EngineLawful) : s.enterRunning.EngineLawful := by
  have hrunning : ((s.setRunState .running).setEchoCount 0).EngineLawful := h.of_ledger rfl
  exact State.EngineLawful.takeUp (hrunning.cycleStart.of_ledger (State.setBoundary_ledger _ true))

theorem State.EngineLawful.schedExpiry (h : s.EngineLawful) : s.schedExpiry.EngineLawful := by
  unfold State.schedExpiry
  split
  · exact State.EngineLawful.reqWindowOpens (h.of_ledger rfl)
  · exact h

theorem State.resetBlocks_engineLawful (s : State) (asserted : Bool) : (s.resetBlocks asserted).EngineLawful :=
  State.engineLawful_reset.of_ledger rfl

theorem State.resetPinAssert_engineLawful (s : State) (duringRead : Bool) : (s.resetPinAssert duringRead).EngineLawful := by
  unfold State.resetPinAssert
  dsimp only
  split
  · exact (s.resetBlocks_engineLawful true).of_ledger rfl
  · exact s.resetBlocks_engineLawful true

theorem State.EngineLawful.start (h : s.EngineLawful) : s.start.EngineLawful := by
  unfold State.start
  split
  · exact h.enterRunning.of_ledger rfl
  · exact h.of_ledger rfl

theorem State.EngineLawful.stop (h : s.EngineLawful) : s.stop.EngineLawful := by
  have hoff : s.enterOff.EngineLawful := h.of_ledger rfl
  have hcut : (s.enterOff.cutLine.schedLeave.setResult .done 0).EngineLawful := hoff.cutLine.of_ledger rfl
  unfold State.stop
  split
  · split
    · have hdraining : s.enterDraining.schedWithdraw.EngineLawful := h.of_ledger rfl
      exact (hdraining.ownersLeave .stopped).of_ledger rfl
    · have hleft : s.enterOff.schedLeave.EngineLawful := h.of_ledger rfl
      exact (hleft.ownersLeave .stopped).of_ledger rfl
  · exact hcut
  · exact hcut
  all_goals exact h.of_ledger rfl

theorem State.EngineLawful.halt (h : s.EngineLawful) : s.halt.EngineLawful := by
  have hoff : s.enterOff.EngineLawful := h.of_ledger rfl
  have hcut : ∀ (b : Bool) {u : State}, u.EngineLawful → (if b then u else u.cutLine).EngineLawful ∧
      (if b then u.cutLine else u).EngineLawful := fun b u hu => by
    cases b
    · exact ⟨hu.cutLine, hu⟩
    · exact ⟨hu, hu.cutLine⟩
  have hparts := fun both => hoff.engineAndUnit both
    (engine := fun u => (if s.roundOnLine then u else u.cutLine).reqLeave)
    (unit := fun u => (if s.roundOnLine then u.cutLine else u).endSweeping .aborted)
    (fun _ hu => (hcut _ hu).1.reqLeave) (fun _ hu => (hcut _ hu).2.endSweeping .aborted)
  unfold State.halt
  dsimp only
  split
  case h_5 | h_6 => exact h.of_ledger rfl
  all_goals exact (hparts _).of_ledger rfl

/-! ### One step -/

theorem commandTable_owner_engineLawful : ∀ p ∈ commandTable, ∀ u : State, u.EngineLawful → (p.2 u).EngineLawful := by
  simp only [commandTable, List.forall_mem_cons]
  exact ⟨fun u _ => u.resetBlocks_engineLawful false, fun _ h => h.start, fun _ h => h.stop, fun _ h => h.halt,
    fun u h => h.of_ledger u.resume_ledger, fun u h => h.of_ledger u.timingLoad_ledger,
    fun u h => h.of_ledger u.threshLoad_ledger, fun u h => h.of_ledger u.pin_ledger, fun u h => h.of_ledger u.unpin_ledger,
    fun u h => h.of_ledger u.clearConflict_ledger, fun u h => h.of_ledger u.popChange_ledger,
    fun u h => h.of_ledger u.stationSnap_ledger, fun u h => h.of_ledger u.schedSet_ledger,
    fun u h => h.of_ledger u.schedEnable_ledger, fun u h => h.of_ledger u.schedDisable_ledger,
    fun u h => h.of_ledger u.schedSnap_ledger, fun u h => h.of_ledger u.take_ledger, fun u h => h.of_ledger u.put_ledger,
    fun _ h => h.submit, fun _ h => h.cancel, fun _ h => h.popCompletion, List.forall_mem_nil _⟩

/-- Every event of the pins, the timer and the line keeps the laws. -/
theorem event_engineLawful {c : Instr} (hevent : isEvent c = true) (hexec : exec c s = .next t) (h : s.EngineLawful) :
    t.EngineLawful := by
  cases c with
  | resetPinAssert duringRead => cases hexec; exact s.resetPinAssert_engineLawful duringRead
  | resetPinRelease =>
    cases hexec
    unfold State.resetPinRelease
    split
    · exact s.resetBlocks_engineLawful false
    · exact h
  | initEnd => cases hexec; exact h.of_ledger s.initEnd_ledger
  | lineCheckStuck => cases hexec; exact h.of_ledger s.lineCheckStuck_ledger
  | lineCheckClear =>
    cases hexec
    unfold State.lineCheckClear
    split
    · exact State.EngineLawful.enterRunning (h.of_ledger rfl)
    · exact h
  | winDataRead =>
    cases hexec
    unfold State.winDataRead
    split <;> exact h.of_ledger rfl
  | cycleStart =>
    cases hexec
    unfold State.openExpiry
    split
    · exact h.cycleStart
    · exact h
  | schedWindowEnd => cases hexec; exact h.schedExpiry
  | grantDecision => cases hexec; exact h.decideGrant
  | echoMismatch lrx => cases hexec; exact h.onRecord fun r hr _ => State.EngineLawful.failFrame (h.setRecord hr rfl) true
  | frameSentClean => cases hexec; exact h.onRecord fun r hr _ => h.frameSent hr
  | responseWaitExpiry =>
    cases hexec
    exact h.onRecord fun r hr _ => h.classify (r' := { r with offGrid := false }) hr rfl _ _
  | replyReceptionEnd bytes onGrid =>
    cases hexec
    exact h.onRecord fun r hr _ => h.classify (r' := { r with offGrid := !onGrid }) hr rfl _ _
  | replyDeadline =>
    cases hexec
    exact h.onRecord fun r hr _ => h.classify (r' := { r with offGrid := false }) hr rfl _ _
  | checkSlotsEnd => cases hexec; exact h.checkSlotsEnd
  | closingGapEnd => cases hexec; exact h.closingGapEnd
  | replyLeadingEdge onGrid => cases hexec; exact h.onRecord fun r hr _ => h.setRecord hr rfl
  | bitTimeEnd mid fin => cases hexec; exact h.bitTimeEnd mid fin
  | registerWrite addr value => rw [not_isEvent_registerWrite] at hevent; cases hevent
  | _ => cases hevent

/-- Settles O57: the host's accesses by their owners (`exec_keeps`), the events by `event_engineLawful`. -/
theorem engineLaw : Obligations.EngineLaw := by
  intro s t hlawful hstep
  cases hp : s.pending with
  | nil =>
    rw [step_of_pending_nil hp] at hstep
    cases hstep
    exact hlawful
  | cons c rest =>
    have hexec : exec c (s.setPending rest) = .next t := by
      unfold step at hstep
      rwa [hp] at hstep
    exact exec_keeps (P := State.EngineLawful) (fun u host h => h.of_ledger (u.setHost_ledger host))
      commandTable_owner_engineLawful (fun hevent => event_engineLawful hevent hexec) hexec
      (hlawful.of_ledger (s.setPending_ledger rest))

end Sys2Proof.Machine
end

section
/-! PROOFS. A transaction begins by the grant decision alone; what the open-window arbiter grants (R64 to R69, R71, R77, R87,
R140). -/

namespace Sys2Proof.Machine

open Sys2Proof

variable {s t : State} {r : Record} {g : Grant}

/-! ### With nothing in flight, nothing but the grant decision begins a transaction (R65) -/

theorem State.stop_record_none (h : s.line.record = none) : s.stop.line.record = none := by
  have hleft : ∀ {u : State}, u.line.record = none → (u.ownersLeave .stopped).line.record = none := fun {u} hu => by
    obtain ⟨n, hframe⟩ := u.ownersLeave_engineFrame .stopped
    exact hframe.record_eq.trans hu
  have hcut : s.enterOff.cutLine.schedLeave.line.record = none := (State.cutLine_acts (s := s.enterOff) rfl).2
  unfold State.stop
  split
  · split
    · exact hleft (u := s.enterDraining.schedWithdraw) h
    · exact hleft (u := s.enterOff.schedLeave) h
  · exact hcut
  · exact hcut
  all_goals exact h

theorem State.halt_record_none (h : s.line.record = none) : s.halt.line.record = none := by
  unfold State.halt
  dsimp only
  split
  case h_5 | h_6 => exact h
  all_goals exact (State.haltParts_acts (s := s.enterOff) rfl _ s.roundOnLine).2.1

/-- An operation that leaves the view begins no transaction. -/
theorem State.record_none_of_view (h : t.view = s.view) (hs : s.line.record = none) : t.line.record = none :=
  (congrArg RoundView.record h).trans hs

theorem commandTable_owner_record_none :
    ∀ p ∈ commandTable, ∀ u : State, u.line.record = none → (p.2 u).line.record = none := by
  simp only [commandTable, List.forall_mem_cons]
  exact ⟨fun _ _ => rfl, fun u => State.record_none_of_view u.start_view, fun _ h => State.stop_record_none h,
    fun _ h => State.halt_record_none h, fun u => State.record_none_of_view u.resume_view,
    fun u => State.record_none_of_view u.timingLoad_view, fun u => u.threshLoad_acts.record_none,
    fun u => u.pin_acts.record_none, fun u => u.unpin_acts.record_none, fun u => u.clearConflict_acts.record_none,
    fun u => u.popChange_acts.record_none, fun u => u.stationSnap_acts.record_none, fun u => u.schedSet_acts.record_none,
    fun u => u.schedEnable_acts.record_none, fun u => u.schedDisable_acts.record_none, fun u => u.schedSnap_acts.record_none,
    fun u => u.take_acts.record_none, fun u => u.put_acts.record_none, fun u => u.submit_acts.record_none,
    fun u => u.cancel_acts.record_none, fun u => u.popCompletion_acts.record_none, List.forall_mem_nil _⟩

/-- With nothing in flight the events of a transaction do not occur, and the others begin none. -/
theorem event_record_none {c : Instr} (hevent : isEvent c = true) (hc : c ≠ .grantDecision) (hexec : exec c s = .next t)
    (h : s.line.record = none) : t.line.record = none := by
  have hno : ∀ {may : Record → Bool} {event : Record → State}, (s.onRecord may event).line.record = none := by
    intro may event
    rw [State.onRecord_none (fun r hr => by rw [h] at hr; cases hr)]
    exact h
  cases c with
  | resetPinAssert duringRead =>
    cases hexec
    unfold State.resetPinAssert
    dsimp only
    split <;> rfl
  | resetPinRelease =>
    cases hexec
    unfold State.resetPinRelease
    split
    · rfl
    · exact h
  | initEnd => cases hexec; exact State.record_none_of_view s.initEnd_view h
  | lineCheckStuck => cases hexec; exact State.record_none_of_view s.lineCheckStuck_view h
  | lineCheckClear => cases hexec; exact State.record_none_of_view s.lineCheckClear_view h
  | winDataRead => cases hexec; exact State.record_none_of_view s.winDataRead_view h
  | cycleStart => cases hexec; exact State.record_none_of_view s.openExpiry_view h
  | schedWindowEnd => cases hexec; exact State.record_none_of_view s.schedExpiry_view h
  | grantDecision => exact absurd rfl hc
  | bitTimeEnd mid fin =>
    cases hexec
    unfold State.bitTimeEnd
    split
    · rw [State.tick_line_record, h]; rfl
    · exact h
  | echoMismatch lrx => cases hexec; exact hno
  | frameSentClean => cases hexec; exact hno
  | responseWaitExpiry => cases hexec; exact hno
  | replyReceptionEnd bytes onGrid => cases hexec; exact hno
  | replyDeadline => cases hexec; exact hno
  | checkSlotsEnd => cases hexec; exact hno
  | closingGapEnd => cases hexec; exact hno
  | replyLeadingEdge onGrid => cases hexec; exact hno
  | registerWrite addr value => rw [not_isEvent_registerWrite] at hevent; cases hevent
  | _ => cases hevent

/-! ### What the grant decision begins (R65, R66) -/

/-- A grant decision with nothing in flight that begins a transaction is made at its boundary, in RUNNING, and grants. -/
theorem decideGrant_begins (hfree : s.line.record = none) (hr : s.decideGrant.line.record = some r) :
    s.Decides ∧ ∃ g, s.decision = some g ∧ s.decideGrant = ((s.setBoundary false).grant g).chooseAtBoundary := by
  unfold State.decideGrant at hr ⊢
  split at hr
  · rw [hfree] at hr; cases hr
  next hnot =>
  rw [if_neg hnot]
  simp only [Bool.or_eq_true, Bool.not_eq_true', not_or, Bool.not_eq_false, Bool.not_eq_true] at hnot
  obtain ⟨⟨hboundary, -⟩, hexpired⟩ := hnot
  rw [State.chooseAtBoundary_line_record] at hr
  unfold State.grantDecided at hr ⊢
  split at hr
  · next hmay =>
    have hrun : s.run.state = .running := by
      simp only [State.mayGrant, Bool.and_eq_true, beq_iff_eq] at hmay
      exact hmay.1.1
    rw [if_pos hmay]
    split at hr
    · next g hg => exact ⟨⟨hrun, hfree, hboundary, hexpired⟩, g, hg, rfl⟩
    · rw [State.setBoundary_line] at hr
      rw [hfree] at hr
      cases hr
  · rw [State.setBoundary_line] at hr
    rw [hfree] at hr
    cases hr

/-- What is granted is driven as a frame, on the line as it stands, and its reservation fits. -/
theorem State.grant_drives (hg : s.Grantable g) : s.grant g = s ∨ ∃ (u : State) (r : Record),
    s.grant g = u.driveFrame r ∧ u.stage = s.stage ∧ r.reservation ≤ s.timer.left := by
  cases g with
  | beacon => exact .inr ⟨_, _, rfl, rfl, hg⟩
  | sched c =>
    unfold State.grant
    dsimp only
    split
    · exact .inr ⟨_, _, rfl, rfl, hg.2⟩
    · exact .inl rfl
  | request c => exact .inr ⟨_, _, rfl, rfl, hg.2⟩
  | round => exact .inr ⟨_, _, rfl, State.discGranted_stage _, hg.2⟩

/-- A grant decision with nothing in flight that begins a transaction drives its frame. -/
theorem decideGrant_drives (hfree : s.line.record = none) (hr : s.decideGrant.line.record = some r) :
    s.Decides ∧ s.timer.window ≠ .noWindow ∧ ∃ (u : State) (r₀ : Record),
      s.decideGrant = (u.driveFrame r₀).chooseAtBoundary ∧ u.stage = s.stage ∧ r₀.reservation ≤ s.timer.left := by
  obtain ⟨hdecides, g, hg, heq⟩ := decideGrant_begins hfree hr
  obtain ⟨hwindow, hgrantable⟩ := State.decision_grantable hg
  refine ⟨hdecides, hwindow, ?_⟩
  rcases State.grant_drives (s := s.setBoundary false) hgrantable with hsame | ⟨u, r₀, hdrive, hstage, hfits⟩
  · rw [heq, hsame, State.chooseAtBoundary_line_record, State.setBoundary_line] at hr
    rw [hfree] at hr
    cases hr
  · exact ⟨u, r₀, by rw [heq, hdrive], hstage, hfits⟩

/-- A frame that fails leaves its record in the closing gap with LINE_ERROR (R63, R71). -/
theorem State.failFrame_record (s : State) (r : Record) (offGrid : Bool) : (s.failFrame r offGrid).line.record =
    some { r.close (some .lineError) offGrid with after := .finish } := by
  have hecho : ∀ u : State, u.echoError.line.record = u.line.record := fun u => congrArg RoundView.record u.echoError_view
  have herror : ∀ u : State, u.discLineError.line.record = u.line.record := fun u =>
    congrArg RoundView.record u.discLineError_view
  unfold State.failFrame
  dsimp only
  split
  · rw [herror, hecho]; rfl
  · rw [hecho]; rfl

theorem State.driveFrame_reservation (s : State) (r : Record) :
    ∃ r', (s.driveFrame r).line.record = some r' ∧ r'.reservation = r.reservation := by
  unfold State.driveFrame
  split
  · exact ⟨_, rfl, rfl⟩
  · exact ⟨_, s.failFrame_record r false, rfl⟩

/-- Settles O23: no other command begins a transaction (`exec_keeps`), and the decision begins only what fits
(`decideGrant_drives`). -/
theorem grantFits : Obligations.GrantFits := by
  intro c s t r hfree hexec hr
  have hc : c = .grantDecision := by
    by_contra hc
    have hnone := exec_keeps (P := fun u => u.line.record = none) (fun _ _ h => h) commandTable_owner_record_none
      (fun hevent => event_record_none hevent hc hexec) hexec hfree
    rw [hnone] at hr
    cases hr
  subst hc
  cases hexec
  obtain ⟨hdecides, hwindow, u, r₀, heq, -, hfits⟩ := decideGrant_drives hfree hr
  obtain ⟨r', hr', hreservation⟩ := u.driveFrame_reservation r₀
  rw [heq, State.chooseAtBoundary_line_record, hr'] at hr
  cases hr
  exact ⟨rfl, hdecides.running, hwindow, hdecides.boundary, by rw [hreservation]; exact hfits⟩

/-! ### The open-window arbiter (R69) -/

/-- The engine's claim is placed and fits the open window. -/
def State.requestReady (s : State) : Prop := ∃ c, s.line.reqClaim = some c ∧ c.reservation s.rw ≤ s.timer.left

/-- The ROUND claim is placed and fits the open window. -/
def State.roundReady (s : State) : Prop := s.line.roundClaim = true ∧ roundReservation s.rw ≤ s.timer.left

theorem State.roundReady_iff : s.roundReady ↔ (s.line.roundClaim && s.fits (roundReservation s.rw)) = true := by
  simp [State.roundReady, State.fits]

/-- The engine's claim is granted when the ROUND claim is not ready, or was granted last. -/
theorem State.arbiter_request {c : Claim} (hc : s.line.reqClaim = some c) (hfit : c.reservation s.rw ≤ s.timer.left)
    (hturn : s.roundReady → s.line.lastGrant = .discovery) : s.arbiter = some (.request c) := by
  have hfits : s.fits (c.reservation s.rw) = true := decide_eq_true hfit
  unfold State.arbiter
  simp only [hc, hfits, if_true]
  by_cases hround : s.roundReady
  · rw [if_pos (State.roundReady_iff.1 hround)]
    simp [hturn hround]
  · rw [if_neg (fun h => hround (State.roundReady_iff.2 h))]

/-- The ROUND claim is granted when the engine's claim is not ready, or was granted last. -/
theorem State.arbiter_round (hround : s.roundReady) (hturn : s.requestReady → s.line.lastGrant = .request) :
    s.arbiter = some .round := by
  unfold State.arbiter
  rw [if_pos (State.roundReady_iff.1 hround)]
  cases hc : s.line.reqClaim with
  | none => rfl
  | some c =>
    by_cases hfit : c.reservation s.rw ≤ s.timer.left
    · have hfits : s.fits (c.reservation s.rw) = true := decide_eq_true hfit
      simp [hfits, hturn ⟨c, hc, hfit⟩]
    · have hfits : s.fits (c.reservation s.rw) = false := decide_eq_false hfit
      simp [hfits]

theorem State.arbiter_none (hrequest : ¬ s.requestReady) (hround : ¬ s.roundReady) : s.arbiter = none := by
  cases hg : s.arbiter with
  | none => rfl
  | some g =>
    unfold State.arbiter at hg
    rw [if_neg (fun h => hround (State.roundReady_iff.2 h))] at hg
    cases hc : s.line.reqClaim with
    | none => simp [hc] at hg
    | some c =>
      have hfits : s.fits (c.reservation s.rw) = false := decide_eq_false fun hfit => hrequest ⟨c, hc, hfit⟩
      simp [hc, hfits] at hg

theorem State.decision_open (hw : s.timer.window = .openWin) : s.decision = s.arbiter := by
  unfold State.decision
  rw [hw]

/-- In the open window no choice of the Scheduler is due (R113). -/
theorem State.not_claimExceeds_open (hw : s.timer.window = .openWin) : ¬ s.claimExceeds := fun h => by
  have hsched := h.2.1
  rw [hw] at hsched
  cases hsched

/-- A grant of the engine's claim: the head's attempt is on the line, with its payload (R68, R140). -/
theorem State.grant_request (hline : s.line.idleRun = 4 ∨ s.line.echoCount < 7) (c : Claim) : s.grant (.request c) = { s with
    line := { s.line with reqClaim := none, lastGrant := .request }.checked (c.record s.headPayload s.rw)
    req := { s.req with head := .onLine } } :=
  State.driveFrame_checked (((s.setReqClaim none).setLastGrant .request).reqGranted) hline (by simp [Claim.record])

/-- A grant of the ROUND claim: one more round, and the unit is in its CONTEND (R77, R87). -/
theorem State.grant_round {sw : Sweep} (hd : s.disc = .sweeping sw) (hline : s.line.idleRun = 4 ∨ s.line.echoCount < 7) :
    s.grant .round = { s with
      line := { s.line with roundClaim := false, lastGrant := .discovery }.checked (roundRecord s.rw)
      disc := .inRound { sw with rounds := satSucc 65535 sw.rounds } {} } := by
  have hgranted : State.discGranted ((s.setRoundClaim false).setLastGrant .discovery) =
      ((s.setRoundClaim false).setLastGrant .discovery).setDisc
        (.inRound { sw with rounds := satSucc 65535 sw.rounds } {}) := by
    simp only [State.discGranted, State.setLastGrant_disc, State.setRoundClaim_disc, hd]
  unfold State.grant
  dsimp only
  rw [hgranted]
  exact State.driveFrame_checked _ hline (by simp [roundRecord])

/-- Settles O25: the three courses of the arbiter, each with its grant; the Scheduler has no choice there. -/
theorem arbiterAlternates : Obligations.ArbiterAlternates := by
  intro s hrun hfree hboundary hw hexpired reqReady roundReady
  have hdecides : s.Decides := ⟨hrun, hfree, hboundary, hexpired⟩
  have hdecision := State.decision_open hw
  have hchoice : ∀ u : State, u.timer = s.timer → u.chooseAtBoundary = u := fun u hu =>
    State.chooseAtBoundary_of_not (State.not_claimExceeds_open (by rw [hu]; exact hw))
  refine ⟨fun c hc hready hturn hline => ?_, fun sw hd hready hturn hline => ?_, fun hrequest hround => ?_⟩
  · obtain ⟨f, hframe, hrecord⟩ := c.record_eq s.headPayload s.rw
    have hfit : c.reservation s.rw ≤ s.timer.left := by
      obtain ⟨c', hc', hfit⟩ := hready
      cases hc.symm.trans hc'
      exact hfit
    refine ⟨f, ?_, ?_⟩
    · unfold State.headPayload at hframe
      cases hq : s.req.queue with
      | nil => rw [hq] at hframe; exact hframe
      | cons q behind => rw [hq] at hframe; exact hframe
    · rw [hdecides.exec_grant (hdecision.trans (State.arbiter_request hc hfit hturn)),
        State.grant_request (s := s.setBoundary false) hline, hchoice, ← hrecord] <;> rfl
  · refine ⟨contendFrame, buildFrame_laidOut _ _ _, ?_⟩
    rw [hdecides.exec_grant (hdecision.trans (State.arbiter_round hready hturn)),
      State.grant_round (s := s.setBoundary false) hd hline, hchoice] <;> rfl
  · rw [hdecides.exec_none (hdecision.trans (State.arbiter_none hrequest hround)), hchoice]
    rfl

end Sys2Proof.Machine
end

section
/-! PROOFS. What the engine and a waiting sweep leave as RUNNING is left: STOP into DRAINING, and the eighth echo error in a
row into FAULTED (R70 to R72, R79, R99, R101, R102, R119, R120, R147, R155, R158). -/

namespace Sys2Proof.Machine

open Sys2Proof

variable {s t u : State} {r : Record}

/-! ### The two owners of the open window -/

/-- The completions the head has written before stay written. -/
theorem State.reqLeave_completions (s : State) : s.req.completions <+: s.reqLeave.req.completions := by
  unfold State.reqLeave
  split
  · exact List.prefix_refl _
  · next o n _ =>
    cases hq : s.req.queue with
    | nil => simp [State.finishHead, State.completeHead, hq, State.takeUp, State.takeUpFuel]
    | cons q behind => exact (List.prefix_append _ _).trans (State.finishHead_extends hq o n {}).1
  · exact List.prefix_refl _
  · exact List.prefix_refl _

/-- A sweep that waits leaves its record in the completions, whichever owner writes first (R96, log 8). -/
theorem State.ownersLeave_written (h : s.run.state ≠ .running) {sw : Sweep} (hd : s.disc = .sweeping sw) (o : LineOutcome) :
    sw.record o ∈ (s.ownersLeave o).req.completions := by
  have hleft := State.engineAndUnit_ensures (s := s)
    (Inv := fun u => u.run = s.run ∧ (u.disc = .sweeping sw ∨ sw.record o ∈ u.req.completions)) (P := fun _ => True)
    (Q := fun u => sw.record o ∈ u.req.completions) (engine := State.reqLeave) (unit := fun u => u.endSweeping o)
    (s.disc.isSweeping && s.req.head.isRetryWaiting) ⟨rfl, .inl hd⟩ ⟨rfl, .inl hd⟩
    (fun u hu => by
      have hkeep : sw.record o ∈ u.req.completions → sw.record o ∈ u.reqLeave.req.completions := fun hmem =>
        u.reqLeave_completions.subset hmem
      have hdisc := (State.reqLeave_disc (s := u) (by rw [hu.1]; exact h)).1
      refine ⟨⟨?_, hu.2.imp (fun hw => hdisc.trans hw) hkeep⟩, trivial, hkeep⟩
      rw [u.reqLeave_engineFrame]
      exact hu.1)
    (fun u hu => by
      have hmem : sw.record o ∈ (u.endSweeping o).req.completions := by
        rw [State.endSweeping_eq]
        rcases hu.2 with hw | hmem
        · rw [hw]; exact List.mem_append_right _ List.mem_cons_self
        · exact List.mem_append_left _ hmem
      refine ⟨⟨?_, .inr hmem⟩, hmem, fun _ => trivial⟩
      rw [u.endSweeping_engineFrame]
      exact hu.1)
  exact hleft.2.2

/-- A round in flight is not touched as the owners leave RUNNING. -/
theorem State.ownersLeave_inRound (h : s.run.state ≠ .running) {sw : Sweep} {rd : Round} (hd : s.disc = .inRound sw rd)
    (o : LineOutcome) : (s.ownersLeave o).disc = .inRound sw rd := by
  have hboth : (s.disc.isSweeping && s.req.head.isRetryWaiting) = false := by rw [hd]; rfl
  have hleave := (State.reqLeave_disc h).1.trans hd
  unfold State.ownersLeave State.engineAndUnit
  rw [hboth, if_neg Bool.false_ne_true]
  show (s.reqLeave.endSweeping o).disc = _
  rw [State.endSweeping_eq, hleave]
  rfl

/-! ### STOP into DRAINING (R155) -/

/-- STOP with a transaction in flight drains. -/
theorem State.exec_stop_draining (hreset : s.run.resetAsserted = false) (hst : s.run.state = .running)
    (hrecord : s.line.record.isSome = true) : exec .stop s =
      .next (((s.setCmd 0x03).enterDraining.schedWithdraw.ownersLeave .stopped).setResult .done 1) := by
  have hrun : (s.setCmd 0x03).run.state = .running := hst
  rw [State.exec_stop ⟨hreset, by simp [hst]⟩]
  unfold State.stop
  rw [hrun]
  exact congrArg Host.Outcome.next (if_pos hrecord)

/-- Settles O9: the owners leave (`State.ownersLeave_left`), and all else is what DRAINING is entered with. -/
theorem stopDrains : Obligations.StopDrains := by
  intro s hreset hst hrecord
  have hexec := State.exec_stop_draining hreset hst hrecord
  have hne : (s.setCmd 0x03).enterDraining.schedWithdraw.run.state ≠ .running := RunState.noConfusion
  obtain ⟨n, hframe⟩ := State.ownersLeave_engineFrame (s.setCmd 0x03).enterDraining.schedWithdraw .stopped
  obtain ⟨hhead, hsweep⟩ := State.ownersLeave_left hne .stopped
  have hround := fun sw rd (hd : s.disc = .inRound sw rd) => State.ownersLeave_inRound hne hd .stopped
  have hwritten := fun sw (hd : s.disc = .sweeping sw) => State.ownersLeave_written hne hd .stopped
  have hended : s.retriesEnded (s.setCmd 0x03).enterDraining.schedWithdraw :=
    (s.setCmd 0x03).enterDraining.schedWithdraw_retriesEnded
  generalize (s.setCmd 0x03).enterDraining.schedWithdraw.ownersLeave .stopped = t at *
  have hsched : t.sched = (s.setCmd 0x03).enterDraining.schedWithdraw.sched := by rw [hframe]
  refine ⟨_, hexec, ?_, ?_, ?_, ?_, ?_, ?_, ⟨hhead.stays, hhead.claimed, hhead.retry⟩, hsweep, hwritten, fun k => ?_, ?_,
    fun sw rd hd => (hround sw rd hd).trans hd.symm, ?_, ?_, ?_⟩
  · rw [State.setResult_run, hframe]; rfl
  · rw [State.setResult_timer, hframe]; rfl
  · rw [State.setResult_roster, hframe]; rfl
  · rw [State.setResult_line, hframe]; rfl
  · rw [State.setResult_line, hframe]; rfl
  · rw [State.setResult_line, hframe]; rfl
  · rw [State.entry, State.setResult_sched, hsched]; exact hended k
  · rw [State.setResult_sched, hsched]; rfl
  · rw [State.setResult_host, hframe]; rfl
  · rw [State.setResult_dataBus, hframe]; rfl
  · rw [State.setResult_pending, hframe]; rfl

/-! ### FAULTED (R102, R158) -/

theorem State.HeadLeft.congr {unit : List Completion} (h : s.HeadLeft t unit) (hreq : u.req = t.req)
    (hclaim : u.line.reqClaim = t.line.reqClaim) : s.HeadLeft u unit :=
  ⟨fun hhead => hreq.trans (h.stays hhead),
    fun hhead => ⟨hclaim.trans (h.claimed hhead).1, hreq.trans (h.claimed hhead).2⟩,
    fun o n q behind hhead hq => by
      obtain ⟨hnone, written, hwritten, heq⟩ := h.retry o n q behind hhead hq
      exact ⟨hclaim.trans hnone, written, hwritten, hreq.trans heq⟩⟩

/-- What FAULTED holds once it is entered: the windows ended, the claims withdrawn, no due mark, no waiting retry, the head and
a waiting sweep left. -/
structure State.Faulted (s t : State) : Prop where
  run       : t.run = { s.run with state := .faulted }
  timer     : s.timer.Closed t.timer
  line      : t.line.record = s.line.record ∧ t.line.beaconPending = false ∧ t.line.schedClaim = none
  counts    : t.line.echoCount = s.line.echoCount ∧ t.line.lineErrors = s.line.lineErrors
  marks     : ∀ n, (t.entry n).status ≠ .due ∧ (t.entry n).status ≠ .held
  returned  : ∀ n, s.entryOnLine n = false → t.entry n = (s.entry n).returned
  head      : s.HeadLeft t (s.disc.ending .lineError)
  sweep     : s.sweepLeft t
  mailboxes : t.sched.mailboxes = s.sched.mailboxes
  host      : t.host = s.host
  bus       : t.dataBus = s.dataBus ∧ t.pending = s.pending

theorem State.discFaultSeen_frame (s : State) : s.discFaultSeen = { s with disc := s.discFaultSeen.disc } := by
  unfold State.discFaultSeen
  split <;> rfl

theorem State.discFaultSeen_idle (h : s.disc = .idle) : s.discFaultSeen = s := by
  unfold State.discFaultSeen
  rw [h]

/-- FAULTED as it is entered, before the engine and the unit leave RUNNING. -/
abbrev State.faulting (s : State) : State :=
  (((s.setRunState .faulted).setTimer s.timer.close).setBeaconPending false).schedLeave

theorem State.enterFaulted_eq (s : State) : s.enterFaulted = (s.faulting.ownersLeave .lineError).discFaultSeen := rfl

theorem State.faulting_not_running (s : State) : s.faulting.run.state ≠ .running := RunState.noConfusion

theorem State.enterFaulted_faulted (s : State) : s.Faulted s.enterFaulted := by
  obtain ⟨n, hleave⟩ := s.faulting.ownersLeave_engineFrame .lineError
  obtain ⟨hhead, hsweep⟩ := State.ownersLeave_left s.faulting_not_running .lineError
  rw [State.enterFaulted_eq, State.discFaultSeen_frame]
  generalize s.faulting.ownersLeave .lineError = v at *
  have hsched : v.sched = s.faulting.sched := by rw [hleave]
  have hidle : v.disc = .idle → v.discFaultSeen.disc = .idle := fun hd => by rw [State.discFaultSeen_idle hd, hd]
  constructor
  case line =>
    refine ⟨?_, ?_, ?_⟩
    all_goals dsimp only; rw [hleave]; rfl
  case counts =>
    refine ⟨?_, ?_⟩
    all_goals dsimp only; rw [hleave]; rfl
  case bus =>
    refine ⟨?_, ?_⟩
    all_goals dsimp only; rw [hleave]; rfl
  case timer => dsimp only; rw [hleave]; exact s.timer.closed_close
  case marks => intro k; rw [State.entry, hsched]; exact State.schedLeave_status _ k
  case returned => intro k hk; rw [State.entry, hsched]; exact State.schedLeave_returned hk
  case head => exact State.HeadLeft.congr (t := v) ⟨hhead.stays, hhead.claimed, hhead.retry⟩ rfl rfl
  case sweep => exact ⟨fun sw hd => ⟨hidle (hsweep.1 sw hd).1, (hsweep.1 sw hd).2⟩, fun hd => hidle (hsweep.2 hd)⟩
  case mailboxes => dsimp only; rw [hsched]; rfl
  all_goals dsimp only; rw [hleave]; rfl

theorem State.enterFaulted_roster (s : State) : s.enterFaulted.roster = s.roster := by
  obtain ⟨n, hleave⟩ := s.faulting.ownersLeave_engineFrame .lineError
  rw [State.enterFaulted_eq, State.discFaultSeen_frame, hleave]
  rfl

/-- What FAULTED holds says nothing of a round in flight, which the unit ends at its own gap. -/
theorem State.Faulted.of_inRound {sw : Sweep} {rd : Round} (h : s.Faulted t) (hd : s.disc = .inRound sw rd) (roster : Roster)
    (disc : Discovery) : s.Faulted { t with roster := roster, disc := disc } :=
  { h with
    head := h.head.congr rfl rfl
    sweep := ⟨fun _ hw => absurd (hd.symm.trans hw) nofun, fun hi => absurd (hd.symm.trans hi) nofun⟩ }

/-- A round in flight sees the fault (R102). -/
theorem State.enterFaulted_inRound {sw : Sweep} {rd : Round} (hd : s.disc = .inRound sw rd) :
    s.enterFaulted.disc = .inRound { sw with faultSeen := true } rd := by
  have hkept := State.ownersLeave_inRound s.faulting_not_running (show s.faulting.disc = _ from hd) .lineError
  rw [State.enterFaulted_eq]
  unfold State.discFaultSeen
  rw [hkept]
  rfl

/-- A sweep that waits leaves its record (R102). -/
theorem State.enterFaulted_written {sw : Sweep} (hd : s.disc = .sweeping sw) :
    sw.record .lineError ∈ s.enterFaulted.req.completions := by
  rw [State.enterFaulted_eq, State.discFaultSeen_frame]
  exact State.ownersLeave_written s.faulting_not_running hd .lineError

/-! ### A frame that fails (R70 to R72, R78, R101) -/

/-- The line as a frame fails below the eighth echo error in a row, or at it. -/
def LineSequencer.failed (l : LineSequencer) (r : Record) (offGrid : Bool) : LineSequencer :=
  { l with
    record := some { r with phase := .closing, outcome := some .lineError, phaseTime := 0, offGrid, after := .finish }
    echoCount := l.echoCount + 1, lineErrors := min (l.lineErrors + 1) 65535 }

/-- What the unit is handed as a frame fails: LINE_ERROR, on a RESTART, an ASSIGN or a RELEASE of a round (R101). -/
theorem State.failFrame_below (h : s.line.echoCount < 7) (r : Record) (offGrid : Bool) : s.failFrame r offGrid =
    let failed : State := { s with line := s.line.failed r offGrid }
    if r.owner = .discovery ∧ r.part ≠ .contend then failed.discLineError else failed := by
  have hecho := State.echoError_below (s.setRecord (some { r.close (some .lineError) offGrid with after := .finish })) h
  unfold State.failFrame
  dsimp only
  rw [hecho]
  rfl

/-- The eighth echo error in a row in RUNNING or DRAINING enters FAULTED with the record in its closing gap (R72, R158). -/
theorem State.failFrame_eighth (h : s.line.echoCount = 7) (hst : s.run.state = .running ∨ s.run.state = .draining)
    (r : Record) (offGrid : Bool) : s.failFrame r offGrid =
    let failed : State := { s with line := s.line.failed r offGrid }
    if r.owner = .discovery ∧ r.part ≠ .contend then failed.enterFaulted.discLineError else failed.enterFaulted := by
  have hecho := State.echoError_eighth (s.setRecord (some { r.close (some .lineError) offGrid with after := .finish })) h hst
  unfold State.failFrame
  dsimp only
  rw [hecho, LineSequencer.failed, h]
  rfl

theorem exec_echoMismatch {lrx : Level} (hr : s.line.record = some r) (hphase : r.phase = .sending)
    (htime : r.phaseTime < r.frame.bits) (hlevel : r.frame.level r.phaseTime ≠ lrx) :
    exec (.echoMismatch lrx) s = .next (s.failFrame r true) :=
  congrArg Host.Outcome.next (State.onRecord_some hr (by
    have hdue : r.due s.rw = false := by rw [Record.due_sending _ hphase]; exact decide_eq_false (Nat.not_le.2 htime)
    simp [hphase, hdue, hlevel]))

/-- LINE_ERROR handed to a round: one more noisy round, its JOINING entry reverted (R78, R101). -/
theorem State.discLineError_inRound {sw : Sweep} {rd : Round} (hd : s.disc = .inRound sw rd) : s.discLineError = { s with
    roster := if rd.phase = .assignWait then s.roster.revert rd.address else s.roster
    disc := .inRound sw.noisier { rd with phase := .closing } } := by
  unfold State.discLineError
  rw [hd]
  dsimp only
  split <;> rfl

/-- The eighth echo error in a row on a RESTART, an ASSIGN or a RELEASE of a round: the round sees the fault and is noisy. -/
theorem State.enterFaulted_discLineError {sw : Sweep} {rd : Round} (hd : s.disc = .inRound sw rd) :
    s.enterFaulted.discLineError = { s.enterFaulted with
      roster := if rd.phase = .assignWait then s.roster.revert rd.address else s.roster
      disc := .inRound { sw.noisier with faultSeen := true } { rd with phase := .closing } } := by
  rw [State.discLineError_inRound (State.enterFaulted_inRound hd), State.enterFaulted_roster]
  rfl

/-- A failed frame counts an echo error and changes nothing else of the run, the timer and the counts, but that the eighth in a
row faults. -/
theorem State.failFrame_stage (s : State) (r : Record) (offGrid : Bool) : (s.failFrame r offGrid).stage =
    let counted : Stage := { s.stage with
      echoCount := satSucc 8 s.line.echoCount, lineErrors := satSucc 65535 s.line.lineErrors }
    if satSucc 8 s.line.echoCount = 8 ∧ (s.run.state = .running ∨ s.run.state = .draining) then
      { counted with run := { s.run with state := .faulted }, timer := s.timer.close } else counted := by
  have hecho : ∀ u : State, u.stage = s.stage → u.echoError.stage =
      if satSucc 8 s.line.echoCount = 8 ∧ (s.run.state = .running ∨ s.run.state = .draining) then
        { s.stage with
          echoCount := satSucc 8 s.line.echoCount, lineErrors := satSucc 65535 s.line.lineErrors
          run := { s.run with state := .faulted }, timer := s.timer.close }
      else { s.stage with
        echoCount := satSucc 8 s.line.echoCount, lineErrors := satSucc 65535 s.line.lineErrors } := by
    intro u hu
    simp only [State.stage, Stage.mk.injEq] at hu
    obtain ⟨hrun, htimer, hidle, hcount, herrors⟩ := hu
    unfold State.echoError
    dsimp only
    rw [hcount, herrors, hrun]
    split
    · rw [(State.enterFaulted_stage _).1]
      simp only [State.stage, htimer, hidle]
    · simp only [State.stage, htimer, hidle]
  unfold State.failFrame
  dsimp only
  split
  · rw [(State.discLineError_acts _).stage]
    exact hecho _ rfl
  · exact hecho _ rfl

/-- A grant on a line that is not idle is an echo error at once (R64, R71). -/
theorem grant_failed (hfree : s.line.record = none) (hr : s.decideGrant.line.record = some r) (hidle : s.line.idleRun ≠ 4) :
    s.run.state = .running ∧ r.phase = .closing ∧ r.outcome = some .lineError ∧ ∃ (u : State) (r₀ : Record),
      u.stage = s.stage ∧ s.decideGrant.stage = (u.failFrame r₀ false).stage := by
  obtain ⟨hdecides, -, u, r₀, heq, hstage, -⟩ := decideGrant_drives hfree hr
  have hdrive : u.driveFrame r₀ = u.failFrame r₀ false :=
    if_neg fun h => hidle ((congrArg Stage.idleRun hstage).symm.trans h)
  rw [heq, State.chooseAtBoundary_line_record, hdrive, State.failFrame_record] at hr
  cases hr
  exact ⟨hdecides.running, rfl, rfl, u, r₀, hstage, by rw [heq, (State.chooseAtBoundary_acts _).stage, hdrive]⟩

/-- Settles O26: below the eighth the frame fails (`State.failFrame_below`); the eighth enters FAULTED behind it
(`State.enterFaulted_faulted`). -/
theorem echoMismatchFails : Obligations.EchoMismatchFails := by
  refine ⟨?_, fun s t r hfree hexec hr hidle => ?_⟩
  · intro s r lrx hr hphase htime hlevel failed line noisier faulted
    have hexec := exec_echoMismatch hr hphase htime hlevel
    have honLine : ∀ n, ({ s with line := line } : State).entryOnLine n = s.entryOnLine n := fun n => by
      simp only [State.entryOnLine, hr]; rfl
    have hfaulted : ∀ t, s.line.echoCount = 7 → ({ s with line := line } : State).Faulted t → faulted t :=
      fun t hecho h => ⟨h.run, by simp [State.faultFlag, h.run], h.timer, h.line.1,
        h.counts.1.trans (congrArg (· + 1) hecho), h.counts.2, h.line.2.1, h.line.2.2, h.marks,
        fun n hn => h.returned n ((honLine n).trans hn),
        ⟨h.head.stays, h.head.claimed, h.head.retry⟩, h.sweep, h.mailboxes, h.host, h.bus.1, h.bus.2⟩
    refine ⟨fun hpart hecho => ?_, fun sw rd ho hpart hecho hd => ?_, fun hpart hecho hst => ?_,
      fun sw rd ho hpart hecho hd hst => ?_⟩
    · rw [hexec, State.failFrame_below hecho]
      exact congrArg Host.Outcome.next (if_neg fun h => hpart.elim (· h.1) h.2)
    · rw [hexec, State.failFrame_below hecho]
      dsimp only
      rw [if_pos ⟨ho, hpart⟩, State.discLineError_inRound (by exact hd)]
      rfl
    · refine ⟨({ s with line := line } : State).enterFaulted, ?_, hfaulted _ hecho (State.enterFaulted_faulted _),
        State.enterFaulted_roster _, fun sw rd hd => State.enterFaulted_inRound (by exact hd), fun sw hd =>
          ⟨((State.enterFaulted_faulted { s with line := line }).sweep.1 sw hd).1,
            State.enterFaulted_written (by exact hd)⟩⟩
      rw [hexec, State.failFrame_eighth hecho hst]
      exact congrArg Host.Outcome.next (if_neg fun h => hpart.elim (· h.1) h.2)
    · have heq := State.enterFaulted_discLineError (s := { s with line := line }) hd
      refine ⟨({ s with line := line } : State).enterFaulted.discLineError, ?_, ?_, ?_, ?_⟩
      · rw [hexec, State.failFrame_eighth hecho hst]
        exact congrArg Host.Outcome.next (if_pos ⟨ho, hpart⟩)
      · rw [heq]
        exact hfaulted _ hecho ((State.enterFaulted_faulted { s with line := line }).of_inRound hd _ _)
      · rw [heq]
      · rw [heq]; rfl
  · cases hexec
    obtain ⟨hst, hphase, hout, u, r₀, hu, hstage⟩ := grant_failed hfree hr hidle
    simp only [State.stage, Stage.mk.injEq] at hu
    obtain ⟨hrun, htimer, -, hcount, herrors⟩ := hu
    rw [State.failFrame_stage, hrun, htimer, hcount, herrors] at hstage
    refine ⟨hphase, hout, ?_, fun hecho => ?_, fun hecho => ?_⟩
    · refine (congrArg Stage.lineErrors hstage).trans ?_
      dsimp only
      split <;> rfl
    · have hbelow : satSucc 8 s.line.echoCount = s.line.echoCount + 1 := by unfold satSucc; omega
      rw [hbelow] at hstage
      dsimp only at hstage
      rw [if_neg (by omega)] at hstage
      exact ⟨(congrArg Stage.run hstage).trans hrun, congrArg Stage.echoCount hstage⟩
    · rw [hecho] at hstage
      dsimp only at hstage
      rw [if_pos ⟨rfl, .inl hst⟩] at hstage
      have hclosed : s.decideGrant.timer = s.timer.close := congrArg Stage.timer hstage
      exact ⟨congrArg Stage.run hstage, hclosed ▸ s.timer.closed_close, congrArg Stage.echoCount hstage⟩

end Sys2Proof.Machine
end

section
/-! PROOFS. HALT: the line is cut in OFF, by the engine's part or by the unit's, in either order (R80, R100, R120, R147, R148,
R157). -/

namespace Sys2Proof.Machine

open Sys2Proof

variable {s t u v w : State} {r : Record} {b : Bool}

/-! ### The two parts of HALT -/

/-- The owners' parts from OFF, in either order: the engine's part cuts the line, or the unit's where a round is in flight. -/
inductive State.Cut (w : State) : Bool → State → Prop
  | engineFirst : Cut w false (w.cutLine.reqLeave.endSweeping .aborted)
  | unitFirst : Cut w false (w.endSweeping .aborted).cutLine.reqLeave
  | engineThenRound : Cut w true (w.reqLeave.cutLine.endSweeping .aborted)
  | roundThenEngine : Cut w true (w.cutLine.endSweeping .aborted).reqLeave

/-- The engine's part and the unit's, in one of their two orders. -/
theorem State.engineAndUnit_orders (s : State) (both : Bool) (engine unit : State → State) :
    ∃ n, s.engineAndUnit both engine unit = unit (engine { s with freeIndex := n }) ∨
      s.engineAndUnit both engine unit = engine (unit { s with freeIndex := n }) := by
  unfold State.engineAndUnit
  split
  · split
    · exact ⟨_, .inl rfl⟩
    · exact ⟨_, .inr rfl⟩
  · exact ⟨s.freeIndex, .inl rfl⟩

theorem State.roundOnLine_some (hr : s.line.record = some r) : s.roundOnLine = (r.owner == .discovery) := by
  unfold State.roundOnLine
  rw [hr]

theorem State.roundOnLine_false (h : ∀ r, s.line.record = some r → r.owner ≠ .discovery) : s.roundOnLine = false := by
  unfold State.roundOnLine
  split
  · next r hr => exact beq_eq_false_iff_ne.2 (h r hr)
  · rfl

/-- What the owners leave of OFF as HALT enters it. -/
abbrev State.haltOwners (s : State) : State :=
  s.enterOff.engineAndUnit (s.disc.active && (s.req.head.isRetryWaiting || s.requestOnLine))
    (fun u => (if s.roundOnLine then u else u.cutLine).reqLeave)
    (fun u => (if s.roundOnLine then u.cutLine else u).endSweeping .aborted)

theorem State.haltOwners_cut (s : State) : ∃ n, State.Cut { s.enterOff with freeIndex := n } s.roundOnLine s.haltOwners := by
  obtain ⟨n, horders⟩ := s.enterOff.engineAndUnit_orders
    (s.disc.active && (s.req.head.isRetryWaiting || s.requestOnLine))
    (fun u => (if s.roundOnLine then u else u.cutLine).reqLeave)
    (fun u => (if s.roundOnLine then u.cutLine else u).endSweeping .aborted)
  refine ⟨n, ?_⟩
  rcases horders with h | h <;> rw [State.haltOwners, h] <;> cases s.roundOnLine
  · exact .engineFirst
  · exact .engineThenRound
  · exact .unitFirst
  · exact .roundThenEngine

/-- HALT goes to OFF, the owners take their parts, and the Scheduler leaves (R157). -/
theorem State.exec_halt (hreset : s.run.resetAsserted = false) (hst : s.run.state = .running ∨ s.run.state = .draining ∨
    s.run.state = .faulted ∨ s.run.state = .checking) :
    exec .halt s = .next ((s.setCmd 0x04).haltOwners.schedLeave.setResult .done 0) := by
  have haccepts : s.accepts := ⟨hreset, by rcases hst with h | h | h | h <;> simp [h]⟩
  refine congrArg Host.Outcome.next ((State.command_accepted haccepts _ _).trans ?_)
  unfold State.halt
  rcases hst with h | h | h | h <;> rw [State.setCmd_run, h]

/-- Between the parts of the engine and the unit stands the cut itself. -/
theorem State.Cut.between (h : w.Cut b v) : ∃ x, w.EngineFrame x ∧ x.cutLine.EngineFrame v := by
  cases h with
  | engineFirst => exact ⟨w, rfl, (State.reqLeave_engineFrame _).trans (State.endSweeping_engineFrame _ _)⟩
  | unitFirst => exact ⟨_, w.endSweeping_engineFrame _, State.reqLeave_engineFrame _⟩
  | engineThenRound => exact ⟨_, w.reqLeave_engineFrame, State.endSweeping_engineFrame _ _⟩
  | roundThenEngine => exact ⟨w, rfl, (State.endSweeping_engineFrame _ _).trans (State.reqLeave_engineFrame _)⟩

/-! ### The cut itself, owner by owner -/

/-- What the cut can touch: the line's record and claims, the Roster, the owners, and MBX. -/
def State.CutFrame (s t : State) : Prop :=
  t = { s with
    line := { s.line with
      record := t.line.record, schedClaim := t.line.schedClaim, reqClaim := t.line.reqClaim, roundClaim := t.line.roundClaim }
    roster := t.roster
    disc := t.disc
    sched := t.sched
    req := t.req
    host := { s.host with sticky := { s.host.sticky with mbx := t.host.sticky.mbx } } }

theorem State.CutFrame.trans (h : s.CutFrame t) (h' : t.CutFrame u) : s.CutFrame u := by
  unfold State.CutFrame at *
  rw [h', h]

theorem State.EngineFrame.cutFrame (h : s.EngineFrame t) : s.CutFrame t := by
  rw [State.EngineFrame] at h
  rw [h]
  rfl

theorem State.deliver_cutFrame (s : State) (r : Record) (o : LineOutcome) : s.CutFrame (s.deliver r o) := by
  unfold State.deliver
  dsimp only
  split
  · rw [State.schedOutcome_frame]; rfl
  · exact State.CutFrame.trans (t := (s.setRecord none).setRoster _) rfl (State.reqOutcome_engineFrame _ _ _ _).cutFrame
  · rfl
  · rfl

theorem State.discLineError_frame (s : State) :
    s.discLineError = { s with roster := s.discLineError.roster, disc := s.discLineError.disc } := by
  unfold State.discLineError
  split
  · dsimp only; split <;> rfl
  · rfl
  · rfl

theorem State.discAborted_frame (s : State) :
    s.discAborted = { s with roster := s.discAborted.roster, disc := s.discAborted.disc } := by
  unfold State.discAborted
  split
  · dsimp only; split <;> rfl
  · rfl
  · rfl

/-- The record of a round is cut (R100). -/
theorem State.cutLine_discovery (hr : s.line.record = some r) (howner : r.owner = .discovery) : s.cutLine =
    (if r.part = .contend ∧ r.outcome = some .lineError then (s.setRecord none).discLineError else s.setRecord none
      ).discAborted.discRoundEnd := by
  unfold State.cutLine
  simp only [hr, howner]

/-- The record of an attempt is cut, with its outcome where it is classified, and ABORTED otherwise. -/
theorem State.cutLine_outcome {o : ClaimOwner} {out : LineOutcome} (hr : s.line.record = some r)
    (howner : r.owner = .claim o) (hcut : if r.phase = .closing then r.outcome = some out else out = .aborted) :
    s.cutLine = s.deliver r out := by
  unfold State.cutLine
  simp only [hr, howner]
  split at hcut
  · next hphase => rw [if_pos hphase, hcut, Option.getD_some]
  · next hphase => rw [if_neg hphase, hcut]

theorem State.cutLine_cutFrame (s : State) : s.CutFrame s.cutLine := by
  cases hr : s.line.record with
  | none => rw [State.cutLine_none hr]; rfl
  | some r =>
    cases howner : r.owner with
    | beacon => rw [State.cutLine_beacon hr howner]; rfl
    | claim o =>
      unfold State.cutLine
      simp only [hr, howner]
      exact s.deliver_cutFrame _ _
    | discovery =>
      rw [State.cutLine_discovery hr howner]
      refine State.CutFrame.trans ?_ (State.discRoundEnd_engineFrame _).cutFrame
      split
      · rw [State.discAborted_frame, State.discLineError_frame]; rfl
      · rw [State.discAborted_frame]; rfl

/-- Outside RUNNING the cut of anything but a schedule entry's attempt leaves the schedule, the mailboxes and MBX. -/
theorem State.cutLine_sched (hsched : ∀ r n, s.line.record = some r →
    r.owner ≠ .claim (.scheduler n)) : s.cutLine.sched = s.sched ∧ s.cutLine.host = s.host := by
  cases hr : s.line.record with
  | none => rw [State.cutLine_none hr]; exact ⟨rfl, rfl⟩
  | some r =>
    cases howner : r.owner with
    | beacon => rw [State.cutLine_beacon hr howner]; exact ⟨rfl, rfl⟩
    | claim o =>
      cases o with
      | scheduler n => exact absurd howner (hsched r n hr)
      | request tag =>
        unfold State.cutLine
        simp only [hr, howner]
        unfold State.deliver
        simp only [howner]
        rw [State.reqOutcome_engineFrame]
        exact ⟨rfl, rfl⟩
    | discovery =>
      rw [State.cutLine_discovery hr howner, State.discRoundEnd_engineFrame, State.discAborted_frame]
      split
      · rw [State.discLineError_frame]; exact ⟨rfl, rfl⟩
      · exact ⟨rfl, rfl⟩

theorem State.mailboxOutcome_entries (s : State) (n : Nat) (o : LineOutcome) (reply : Reply) :
    (s.mailboxOutcome n o reply).sched.entries = s.sched.entries := by
  unfold State.mailboxOutcome
  dsimp only
  split
  · rfl
  split
  · split <;> rfl
  · rfl

/-- Where the Scheduler does not choose, an outcome reaches the entry of its attempt alone (R116). -/
theorem State.schedOutcome_entry_ne {n k : Nat} (h : s.scheduling = false) (hk : k ≠ n) (o : LineOutcome) (reply : Reply) :
    (s.schedOutcome n o reply).entry k = s.entry k := by
  have hnoted : ((s.setEntry n ((s.entry n).noteOutcome o reply s.timer.cycle)).mailboxOutcome n o reply).entry k =
      s.entry k := by
    rw [State.entry, State.mailboxOutcome_entries]
    exact State.entry_setEntry_ne s hk _
  have hnever : ((s.setEntry n ((s.entry n).noteOutcome o reply s.timer.cycle)).mailboxOutcome n o reply).scheduling =
      false := by
    unfold State.mailboxOutcome
    dsimp only
    split
    · exact h
    split
    · split <;> exact h
    · exact h
  unfold State.schedOutcome
  dsimp only
  split
  · exact hnoted
  split
  · exact hnoted
  · rw [State.choose_of_not_scheduling _ (by exact hnever)]
    exact (State.entry_setEntry_ne _ hk _).trans hnoted

/-- The cut leaves every entry whose attempt is not on the line. -/
theorem State.cutLine_entry {n : Nat} (h : s.run.state ≠ .running) (hn : s.entryOnLine n = false) :
    s.cutLine.entry n = s.entry n := by
  by_cases hsched : ∃ r m, s.line.record = some r ∧ r.owner = .claim (.scheduler m)
  · obtain ⟨r, m, hr, howner⟩ := hsched
    have hm : n ≠ m := fun heq => by simp [State.entryOnLine, hr, howner, heq] at hn
    unfold State.cutLine
    simp only [hr, howner]
    unfold State.deliver
    simp only [howner]
    exact State.schedOutcome_entry_ne (s := (s.setRecord none).setRoster _) (State.scheduling_false h) hm _ _
  · exact congrArg (fun sched : Scheduler => sched.entries.get n {})
      (State.cutLine_sched fun r m hr howner => hsched ⟨r, m, hr, howner⟩).1

/-- Outside RUNNING the cut leaves a unit that is in no round. -/
theorem State.cutLine_disc (h : s.run.state ≠ .running) (hd : ∀ sw rd, s.disc ≠ .inRound sw rd) :
    s.cutLine.disc = s.disc := by
  cases hr : s.line.record with
  | none => rw [State.cutLine_none hr]
  | some r =>
    cases howner : r.owner with
    | beacon => rw [State.cutLine_beacon hr howner]; rfl
    | claim o =>
      unfold State.cutLine
      simp only [hr, howner]
      exact State.deliver_disc h _ _
    | discovery =>
      rw [State.cutLine_discovery hr howner]
      cases hdisc : s.disc with
      | inRound sw rd => exact absurd hdisc (hd sw rd)
      | _ => simp [State.discLineError, State.discAborted, State.discRoundEnd, hdisc]

/-- The cut of a beacon or of a schedule entry's attempt leaves the engine and the unit. -/
theorem State.cutLine_owners
    (howner : ∀ r, s.line.record = some r → r.owner = .beacon ∨ ∃ n, r.owner = .claim (.scheduler n)) :
    s.cutLine.req = s.req ∧ s.cutLine.disc = s.disc := by
  cases hr : s.line.record with
  | none => rw [State.cutLine_none hr]; exact ⟨rfl, rfl⟩
  | some r =>
    rcases howner r hr with hbeacon | ⟨n, hsched⟩
    · rw [State.cutLine_beacon hr hbeacon]; exact ⟨rfl, rfl⟩
    · unfold State.cutLine
      simp only [hr, hsched]
      unfold State.deliver
      simp only [hsched]
      rw [State.schedOutcome_frame]
      exact ⟨rfl, rfl⟩

/-- The cut of a round ends its sweep ABORTED, or LINE_ERROR where a fault was seen, with a JOINING entry reverted and one more
noisy round where the CONTEND frame failed (R95, R100 to R102). -/
theorem State.cutLine_round {sw : Sweep} {rd : Round} (hr : s.line.record = some r) (howner : r.owner = .discovery)
    (hd : s.disc = .inRound sw rd) : s.cutLine =
      ((s.setRecord none).setRoster (if rd.phase = .assignWait then s.roster.revert rd.address else s.roster)).endSweep
        (if r.part = .contend ∧ r.outcome = some .lineError then sw.noisier else sw)
        (if sw.faultSeen then .lineError else .aborted) := by
  have habort : ∀ (u : State) (sw' : Sweep) (rd' : Round), u.disc = .inRound sw' rd' → u.discAborted.discRoundEnd =
      (u.setRoster (if rd'.phase = .assignWait then u.roster.revert rd'.address else u.roster)).endSweep sw'
        (if sw'.faultSeen then .lineError else .aborted) := by
    intro u sw' rd' hu
    have haborted : u.discAborted = (u.setRoster (if rd'.phase = .assignWait then u.roster.revert rd'.address
        else u.roster)).setDisc (.inRound sw' { rd' with phase := .closing, aborted := true }) := by
      unfold State.discAborted
      rw [hu]
      dsimp only
      split <;> rfl
    have hcourse : ∀ n b, sw'.courseAtRoundEnd { rd' with phase := .closing, aborted := true } n b =
        some (if sw'.faultSeen then .lineError else .aborted) := fun n b => by
      unfold Sweep.courseAtRoundEnd
      split <;> rfl
    rw [haborted]
    simp only [State.discRoundEnd, State.setDisc, hcourse]
    rfl
  rw [State.cutLine_discovery hr howner]
  split
  · next hfailed =>
    rw [State.discLineError_inRound (s := s.setRecord none) hd]
    exact habort _ sw.noisier { rd with phase := .closing } rfl
  · rw [habort _ _ _ (show (s.setRecord none).disc = _ from hd)]
    rfl

/-- ABORTED says nothing of its station (R25). -/
theorem Roster.deliver_aborted (roster : Roster) (release : Bool) (a : Nat) (cycle : Word) :
    roster.deliver release .aborted a cycle = roster := by
  unfold Roster.deliver
  cases release <;> split <;> rfl

/-! ### What the owners leave behind the cut -/

theorem State.endSweeping_sweeping {sw : Sweep} (hd : s.disc = .sweeping sw) (o : LineOutcome) :
    (s.endSweeping o).disc = .idle ∧ (s.endSweeping o).line.roundClaim = false := by
  rw [State.endSweeping_eq, hd]
  exact ⟨rfl, rfl⟩

theorem State.endSweeping_idle (hd : s.disc = .idle) (o : LineOutcome) : s.endSweeping o = s := by
  unfold State.endSweeping
  rw [hd]

theorem State.cutLine_run (s : State) : s.cutLine.run = s.run := by
  rw [s.cutLine_cutFrame]

theorem State.endSweeping_run (s : State) (o : LineOutcome) : (s.endSweeping o).run = s.run := by
  rw [s.endSweeping_engineFrame o]

theorem State.reqLeave_run (s : State) : s.reqLeave.run = s.run := by
  rw [s.reqLeave_engineFrame]

/-- A sweep that waits ends, and an IDLE unit stays (R100). -/
theorem State.Cut.sweepLeft (h : w.Cut b v) (hoff : w.run.state = .off) : w.sweepLeft v := by
  have hleave : ∀ {u : State}, u.run = w.run → u.reqLeave.disc = u.disc ∧ u.reqLeave.line.roundClaim = u.line.roundClaim :=
    fun {u} hu => State.reqLeave_disc (by rw [hu, hoff]; exact nofun)
  have hcut : ∀ {u : State}, u.run = w.run → (∀ sw rd, u.disc ≠ .inRound sw rd) → u.cutLine.disc = u.disc :=
    fun {u} hu => State.cutLine_disc (by rw [hu, hoff]; exact nofun)
  have hsweeping : ∀ {u : State} {sw}, u.disc = .sweeping sw → ∀ sw' rd, u.disc ≠ .inRound sw' rd := fun hd _ _ h => by
    rw [hd] at h; cases h
  have hidle : ∀ {u : State}, u.disc = .idle → ∀ sw rd, u.disc ≠ .inRound sw rd := fun hd _ _ h => by
    rw [hd] at h; cases h
  cases h with
  | engineFirst =>
    have hrun := w.cutLine_run
    refine ⟨fun sw hd => State.endSweeping_sweeping (sw := sw) ?_ _, fun hd => ?_⟩
    · rw [(hleave hrun).1, hcut rfl (hsweeping hd), hd]
    · have hdisc : w.cutLine.reqLeave.disc = .idle := by rw [(hleave hrun).1, hcut rfl (hidle hd), hd]
      rw [State.endSweeping_idle hdisc, hdisc]
  | unitFirst =>
    have hrun := w.endSweeping_run .aborted
    have hrun' := (State.cutLine_run _).trans hrun
    refine ⟨fun sw hd => ?_, fun hd => ?_⟩
    · obtain ⟨hdisc, hclaim⟩ := State.endSweeping_sweeping hd .aborted
      have hplaces := (State.cutLine_acts (s := w.endSweeping .aborted) (by rw [hrun, hoff])).1.places
        (by rw [hrun, hoff]; exact nofun)
      exact ⟨by rw [(hleave hrun').1, hcut hrun (hidle hdisc), hdisc], by rw [(hleave hrun').2]; exact hplaces.round hclaim⟩
    · rw [State.endSweeping_idle hd] at hrun' ⊢
      rw [(hleave hrun').1, hcut rfl (hidle hd), hd]
  | engineThenRound =>
    have hdisc := (hleave rfl).1
    have hrun := w.reqLeave_run
    refine ⟨fun sw hd => State.endSweeping_sweeping (sw := sw) ?_ _, fun hd => ?_⟩
    · rw [hcut hrun (hsweeping (hdisc.trans hd)), hdisc, hd]
    · have hcutidle : w.reqLeave.cutLine.disc = .idle := by rw [hcut hrun (hidle (hdisc.trans hd)), hdisc, hd]
      rw [State.endSweeping_idle hcutidle, hcutidle]
  | roundThenEngine =>
    have hrun := w.cutLine_run
    refine ⟨fun sw hd => ?_, fun hd => ?_⟩
    · rw [(hleave ((State.endSweeping_run _ _).trans hrun)).1, (hleave ((State.endSweeping_run _ _).trans hrun)).2]
      exact State.endSweeping_sweeping ((hcut rfl (hsweeping hd)).trans hd) _
    · have hcutidle : w.cutLine.disc = .idle := (hcut rfl (hidle hd)).trans hd
      rw [State.endSweeping_idle hcutidle, (hleave hrun).1, hcutidle]

/-- What the engine leaves of its head where the cut leaves the engine and the unit (R147). -/
theorem State.Cut.headLeft (h : w.Cut false v) (hoff : w.run.state = .off) (hkeeps : ∀ x, w.EngineFrame x →
    x.cutLine.req = x.req ∧ x.cutLine.disc = x.disc) : w.HeadLeft v (w.disc.ending .aborted) := by
  have hne : ∀ {u : State}, u.run = w.run → u.run.state ≠ .running := fun hu => by rw [hu, hoff]; exact nofun
  cases h with
  | engineFirst =>
    obtain ⟨hreq, hdisc⟩ := hkeeps w rfl
    have hleave := (State.reqLeave_disc (hne w.cutLine_run)).1.trans hdisc
    have hleft : w.HeadLeft w.cutLine.reqLeave [] := (State.reqLeave_left (hne w.cutLine_run)).after_unit (by simp [hreq])
    exact hleft.then_unit (by rw [State.endSweeping_eq, hleave]) (by rw [State.endSweeping_eq])
  | unitFirst =>
    obtain ⟨hreq, -⟩ := hkeeps _ (w.endSweeping_engineFrame .aborted)
    have hrun := (State.cutLine_run _).trans (w.endSweeping_run .aborted)
    exact (State.reqLeave_left (hne hrun)).after_unit (by rw [hreq, State.endSweeping_eq])

/-- The request whose attempt is cut completes (R148). -/
theorem State.Cut.headCompleted {tag : Nat} {q : Request} {behind : List Request} {out : LineOutcome} (h : w.Cut false v)
    (hoff : w.run.state = .off) (hr : w.line.record = some r) (howner : r.owner = .claim (.request tag))
    (hq : w.req.queue = q :: behind) (hcut : if r.phase = .closing then r.outcome = some out else out = .aborted) :
    w.headCompleted v (q.completion out r.attempt r.reply) behind (w.disc.ending .aborted) := by
  cases h with
  | engineFirst =>
    rw [State.cutLine_outcome hr howner hcut, State.deliver_request (by rw [hoff]; exact nofun) howner hq,
      State.reqLeave_untaken rfl, State.endSweeping_eq]
    exact ⟨rfl, _, .inl rfl, by simp⟩
  | unitFirst =>
    have heq := State.endSweeping_eq w .aborted
    rw [State.cutLine_outcome (s := w.endSweeping .aborted) (by rw [heq]; exact hr) howner hcut,
      State.deliver_request (by rw [State.endSweeping_run, hoff]; exact nofun) howner (by rw [heq]; exact hq),
      State.reqLeave_untaken rfl, heq]
    refine ⟨rfl, _, .inr rfl, ?_⟩
    simp only [List.append_assoc]
    congr 1
    omega

/-- The sweep whose round is cut ends (R95, R100, R102). -/
theorem State.Cut.roundEnds {sw : Sweep} {rd : Round} (h : w.Cut true v) (hoff : w.run.state = .off)
    (hr : w.line.record = some r) (howner : r.owner = .discovery) (hd : w.disc = .inRound sw rd) :
    v.disc = .idle ∧ v.line.roundClaim = false ∧
      w.HeadLeft v [(if r.part = .contend ∧ r.outcome = some .lineError then sw.noisier else sw).record
        (if sw.faultSeen then .lineError else .aborted)] ∧
      v.roster = if rd.phase = .assignWait then w.roster.revert rd.address else w.roster := by
  have hne : w.run.state ≠ .running := by rw [hoff]; exact nofun
  cases h with
  | engineThenRound =>
    have hframe := w.reqLeave_engineFrame
    have hrecord : w.reqLeave.line.record = some r := by rw [hframe]; exact hr
    have hroster : w.reqLeave.roster = w.roster := by rw [hframe]
    rw [State.cutLine_round hrecord howner ((State.reqLeave_disc hne).1.trans hd), State.endSweeping_idle rfl, hroster]
    exact ⟨rfl, rfl, (State.reqLeave_left hne).then_unit rfl rfl, rfl⟩
  | roundThenEngine =>
    rw [State.cutLine_round hr howner hd, State.endSweeping_idle rfl]
    generalize hu : State.endSweep _ _ _ = u
    have hu' : u.run.state ≠ .running := by rw [← hu]; exact hne
    obtain ⟨hdisc, hclaim⟩ := State.reqLeave_disc hu'
    refine ⟨hdisc.trans (by rw [← hu]; rfl), hclaim.trans (by rw [← hu]; rfl), (State.reqLeave_left hu').after_unit
      (by rw [← hu]; rfl), ?_⟩
    rw [State.reqLeave_engineFrame, ← hu]
    rfl

/-! ### The schedule, the Roster and the line behind the cut -/

theorem State.Cut.cutFrame (h : w.Cut b v) : w.CutFrame v := by
  obtain ⟨x, hwx, hxv⟩ := h.between
  exact (hwx.cutFrame.trans x.cutLine_cutFrame).trans hxv.cutFrame

/-- An entry whose attempt is not on the line is not touched by the cut. -/
theorem State.Cut.entry {n : Nat} (h : w.Cut b v) (hoff : w.run.state = .off) (hn : w.entryOnLine n = false) :
    v.entry n = w.entry n := by
  obtain ⟨x, hwx, hxv⟩ := h.between
  have honLine : x.entryOnLine n = false := by rw [hwx]; exact hn
  have hne : x.run.state ≠ .running := by rw [hwx]; simp [hoff]
  calc v.entry n = x.cutLine.entry n := by rw [hxv]; rfl
    _ = x.entry n := State.cutLine_entry hne honLine
    _ = w.entry n := by rw [hwx]; rfl

/-- The cut of anything but a schedule entry's attempt leaves the schedule, the mailboxes and MBX. -/
theorem State.Cut.sched (h : w.Cut b v)
    (hsched : ∀ r n, w.line.record = some r → r.owner ≠ .claim (.scheduler n)) : v.sched = w.sched ∧ v.host = w.host := by
  obtain ⟨x, hwx, hxv⟩ := h.between
  have hrecord : x.line.record = w.line.record := by rw [hwx]
  obtain ⟨hsame, hhost⟩ := State.cutLine_sched (s := x) fun r n hr => hsched r n (hrecord.symm.trans hr)
  rw [hxv]
  exact ⟨hsame.trans (by rw [hwx]), hhost.trans (by rw [hwx])⟩

/-- An attempt that is cut tells the Roster its outcome (R148). -/
theorem State.Cut.delivered {o : ClaimOwner} {out : LineOutcome} (h : w.Cut b v)
    (hr : w.line.record = some r) (howner : r.owner = .claim o)
    (hcut : if r.phase = .closing then r.outcome = some out else out = .aborted) :
    v.roster = w.roster.deliver (r.exchange == some .release) out r.dest w.timer.cycle := by
  obtain ⟨x, hwx, hxv⟩ := h.between
  have hrecord : x.line.record = some r := by rw [hwx]; exact hr
  rw [hxv, State.cutLine_outcome hrecord howner hcut]
  exact (State.deliver_roster _ _ _).trans (by rw [hwx])

/-- The cut of a beacon, and of nothing, leaves the Roster. -/
theorem State.Cut.roster (h : w.Cut b v)
    (hr : ∀ r, w.line.record = some r → r.owner = .beacon) : v.roster = w.roster := by
  obtain ⟨x, hwx, hxv⟩ := h.between
  have hrecord : x.line.record = w.line.record := by rw [hwx]
  have hcut : x.cutLine.roster = x.roster := by
    cases hx : x.line.record with
    | none => rw [State.cutLine_none hx]
    | some r => rw [State.cutLine_beacon hx (hr r (hrecord.symm.trans hx))]; rfl
  rw [hxv]
  exact hcut.trans (by rw [hwx])

/-- The attempt of a schedule entry that is cut ends its issue, without a retry (R116, R148). -/
theorem State.Cut.issueEnds {n : Nat} {out : LineOutcome} (h : w.Cut b v) (hoff : w.run.state = .off)
    (hr : w.line.record = some r) (howner : r.owner = .claim (.scheduler n)) (hst : (w.entry n).status = .inFlight)
    (hcut : if r.phase = .closing then r.outcome = some out else out = .aborted) :
    v.entry n = (w.entry n).ended out r.reply w.timer.cycle ∧
    (∀ k, v.mailbox k = if k = n then (w.mailbox n).taken (w.entry n) out r.reply w.timer.cycle else w.mailbox k) ∧
    v.host.sticky.mbx = (w.host.sticky.mbx ||
      (out == .ok && (w.entry n).direction != 1 && !((w.mailbox n).full && (w.entry n).policy == 0))) := by
  obtain ⟨x, hwx, hxv⟩ := h.between
  have hn : n < 32 := w.entry_lt_of_status (by simp [hst])
  rw [State.EngineFrame] at hwx
  have hx : x.line.record = some r ∧ x.run.state ≠ .running ∧ (x.entry n).status = .inFlight := by
    rw [hwx]; exact ⟨hr, by simp [hoff], hst⟩
  obtain ⟨hrecord, hne, hflight⟩ := hx
  have hfacts : x.entry n = w.entry n ∧ x.timer = w.timer ∧ x.host = w.host ∧ ∀ k, x.mailbox k = w.mailbox k := by
    rw [hwx]; exact ⟨rfl, rfl, rfl, fun _ => rfl⟩
  obtain ⟨hentry, htimer, hhost, hmailbox⟩ := hfacts
  rw [hxv, State.cutLine_outcome hrecord howner hcut, State.deliver_scheduler hne howner hflight, hentry, htimer, hhost,
    hmailbox n]
  refine ⟨State.entry_setEntry_self _ hn _, fun k => ?_, rfl⟩
  split
  · next hk => subst hk; exact State.mailbox_setMailbox_self _ hn _
  · next hk => exact (State.mailbox_setMailbox_ne _ hk _).trans (hmailbox k)

/-- The completion of an attempt that is cut before its outcome is classified holds nothing of a reply. -/
theorem Request.completion_cut {out : LineOutcome}
    (hcut : if r.phase = .closing then r.outcome = some out else out = .aborted) (q : Request) :
    q.completion out r.attempt r.reply = q.completion out r.attempt (if r.phase = .closing then r.reply else {}) := by
  split at hcut
  · next hphase => rw [if_pos hphase]
  · next hphase => rw [if_neg hphase, hcut]; rfl

/-- Settles O11: HALT is OFF, the owners' parts around the cut (`State.Cut`), and the Scheduler's leaving; each clause is what
the cut does for one owner. -/
theorem haltCutsToOff : Obligations.HaltCutsToOff := by
  intro s hreset hst cut
  obtain ⟨n, h⟩ := (s.setCmd 0x04).haltOwners_cut
  have hnone : (s.setCmd 0x04).haltOwners.line.record = none := (State.haltParts_acts rfl _ _).2.1
  have hexec := State.exec_halt hreset hst
  generalize (s.setCmd 0x04).haltOwners = v at h hnone hexec
  have hoff : ({ (s.setCmd 0x04).enterOff with freeIndex := n } : State).run.state = .off := rfl
  have hframe := h.cutFrame
  have hentry : ∀ k, s.entryOnLine k = false → v.entry k = s.entry k := fun k hk => h.entry hoff hk
  obtain ⟨hwait, hidle⟩ := h.sweepLeft hoff
  have hreturned : ∀ k, s.entryOnLine k = false → v.schedLeave.entry k = (s.entry k).returned := fun k hk => by
    rw [State.schedLeave_returned (State.entryOnLine_none hnone k), hentry k hk]
  refine ⟨_, hexec, ?_, ?_, hnone, ?_, ?_, rfl, ?_, ?_, ?_, ?_, ?_, ?_, v.schedLeave_status, hreturned, ⟨hwait, hidle⟩, ?_, ?_,
    ?_, ?_, ?_, ?_, ?_, ?_⟩
  · rw [State.setResult_run, State.schedLeave_eq, hframe]; rfl
  · rw [State.setResult_timer, State.schedLeave_eq, hframe]; exact s.timer.closed_close
  · have hrecord : (v.schedLeave.setResult .done 0).line.record = none := hnone
    unfold State.ltx
    rw [hrecord]
  · rw [State.setResult_line, State.schedLeave_eq, hframe]; rfl
  · rw [State.setResult_line, State.schedLeave_eq, hframe]; rfl
  · rw [State.setResult_line, State.schedLeave_eq, hframe]; rfl
  · rw [State.setResult_line, State.schedLeave_eq, hframe]; rfl
  · rw [State.setResult_host, State.schedLeave_eq, hframe]; rfl
  · rw [State.setResult_dataBus, State.schedLeave_eq, hframe]; rfl
  · rw [State.setResult_pending, State.schedLeave_eq, hframe]; rfl
  · exact fun hr => h.roster fun r hr' => by rw [show s.line.record = some r from hr'] at hr; cases hr
  · exact fun r hr howner => h.roster fun r' hr' => by cases hr.symm.trans hr'; exact howner
  · intro hsched
    obtain ⟨hsame, hhost⟩ := h.sched fun r k hr => hsched r k hr
    refine ⟨?_, ?_⟩
    · show v.sched.mailboxes = s.sched.mailboxes
      rw [hsame]; rfl
    · show v.host.sticky.mbx = s.host.sticky.mbx
      rw [hhost]; rfl
  · intro howner
    have hidleRound : (s.setCmd 0x04).roundOnLine = false := State.roundOnLine_false fun r hr => by
      rcases howner r hr with h | ⟨k, h⟩ <;> rw [h] <;> exact nofun
    rw [hidleRound] at h
    have hhead := h.headLeft hoff fun x hx => State.cutLine_owners fun r hr =>
      howner r (by rw [hx] at hr; exact hr)
    exact ⟨hhead.stays, hhead.claimed, hhead.retry⟩
  · intro r o out hr howner hcut
    refine ⟨h.delivered hr howner hcut, fun hphase => ?_⟩
    have haborted : out = .aborted := by simpa [cut, hphase] using hcut
    exact (h.delivered hr howner hcut).trans (by rw [haborted]; exact Roster.deliver_aborted _ _ _ _)
  · intro r tag q behind out hr howner hq hcut
    rw [State.roundOnLine_some (s := s.setCmd 0x04) hr, howner] at h
    obtain ⟨hnoclaim, written, hwritten, hreq⟩ := h.headCompleted hoff hr howner hq hcut
    rw [Request.completion_cut hcut] at hwritten
    exact ⟨hnoclaim, written, hwritten, hreq⟩
  · intro r k out hr howner hflight hcut
    obtain ⟨hended, hmailbox, hmbx⟩ := h.issueEnds hoff hr howner hflight hcut
    exact ⟨State.schedLeave_ended hnone _ _ _ _ hended, hmailbox, hmbx⟩
  · intro r sw rd hr howner hd
    rw [State.roundOnLine_some (s := s.setCmd 0x04) hr, howner] at h
    obtain ⟨hdisc, hnoround, hhead, hroster⟩ := h.roundEnds hoff hr howner hd
    refine ⟨hdisc, hnoround, ⟨hhead.stays, hhead.claimed, hhead.retry⟩, fun hphase hjoining => ?_, fun hphase => ?_⟩
    · show s.roster.Becomes v.roster _ _ _
      rw [hroster, if_pos hphase]
      exact (Roster.revert_joining hjoining).symm ▸
        s.roster.change_becomes (Roster.station_of_state hjoining (by decide)) (s.roster.entry rd.address).reverted
    · rw [if_neg hphase] at hroster
      exact hroster

end Sys2Proof.Machine
end

section
/-! PROOFS. The course of a sweep at the end of a round, in every run state (R77, R85, R95, R96, R101, R156). -/

namespace Sys2Proof.Machine

open Sys2Proof

variable {s t u : State} {r : Record} {sw : Sweep} {rd : Round}

/-! ### The course of a sweep (R85, R95) -/

/-- The course at a round's end outside DRAINING, with the window check of the next claim (R85, R95). -/
def State.roundCourse (s : State) (sw : Sweep) (rd : Round) : Option LineOutcome :=
  (sw.courseAtRoundEnd rd s.roster.discRetries false).or
    (if s.timer.inForce.openBits < 388 + s.rw then some .windowTooShort else none)

theorem State.windowCheck_eq (s : State) : s.windowCheck = !decide (s.timer.inForce.openBits < 388 + s.rw) := by
  unfold State.windowCheck roundReservation
  rw [← decide_not]
  exact decide_eq_decide.2 Nat.not_lt.symm

/-- A sweep with a course ends so, and one without claims its next round. -/
theorem State.discRoundEnd_course (hd : s.disc = .inRound sw rd) (hst : s.run.state ≠ .draining) : s.discRoundEnd =
    match s.roundCourse sw rd with
    | some o => s.endSweep sw o
    | none => (s.setDisc (.sweeping sw)).setRoundClaim true := by
  have hdraining : (s.run.state == .draining) = false := beq_eq_false_iff_ne.2 hst
  unfold State.discRoundEnd State.roundCourse
  simp only [hd, hdraining]
  cases sw.courseAtRoundEnd rd s.roster.discRetries false with
  | some o => rfl
  | none =>
    simp only [State.placeRound, State.windowCheck_eq, Option.none_or]
    by_cases hshort : s.timer.inForce.openBits < 388 + s.rw <;> simp [hshort]

/-- In DRAINING a sweep ends at the end of its round. -/
theorem State.discRoundEnd_draining (hd : s.disc = .inRound sw rd) (hst : s.run.state = .draining) : s.discRoundEnd =
    s.endSweep sw ((sw.courseAtRoundEnd rd s.roster.discRetries false).getD .stopped) := by
  have hcourse : sw.courseAtRoundEnd rd s.roster.discRetries true =
      some ((sw.courseAtRoundEnd rd s.roster.discRetries false).getD .stopped) := by
    unfold Sweep.courseAtRoundEnd
    simp only [Bool.false_eq_true, if_true, if_false]
    split_ifs <;> rfl
  unfold State.discRoundEnd
  simp only [hd, hst, beq_self_eq_true, hcourse]

/-! ### The end of a round (R77, R101) -/

/-- The round as its last gap is over, the LINE_ERROR of a CONTEND frame counted. -/
abbrev State.roundOver (s : State) (r : Record) (sw : Sweep) (rd : Round) : State :=
  { s with
    line := { s.line with record := none }
    roster := if r.part = .contend ∧ rd.phase = .assignWait then s.roster.revert rd.address else s.roster
    disc := .inRound (if r.part = .contend then sw.noisier else sw)
      (if r.part = .contend then { rd with phase := .closing } else rd) }

theorem State.finishRound_eq (hd : s.disc = .inRound sw rd) (r : Record) :
    s.finishRound r = (s.roundOver r sw rd).discRoundEnd := by
  unfold State.finishRound State.roundOver
  by_cases hpart : r.part = .contend
  · simp only [hpart, if_true, true_and]
    rw [State.discLineError_inRound (s := s.setRecord none) hd]
    rfl
  · simp only [hpart, if_false, false_and]
    rw [← hd]
    rfl

theorem Roster.revert_discRetries (roster : Roster) (a : Nat) : (roster.revert a).discRetries = roster.discRetries := by
  unfold Roster.revert
  split
  · simp [Roster.change]
  · rfl

theorem State.roundOver_discRetries (s : State) (r : Record) (sw : Sweep) (rd : Round) :
    (s.roundOver r sw rd).roster.discRetries = s.roster.discRetries := by
  dsimp only
  split
  · exact s.roster.revert_discRetries _
  · rfl

/-- The course reads the marks of the sweep and of its round, and the count of noisy rounds (R95, orders 1 to 6). -/
theorem Sweep.courseAtRoundEnd_marks {sw' : Sweep} {rd' : Round} (retries : Nat)
    (hsweep : sw'.faultSeen = sw.faultSeen ∧ sw'.cancelRequested = sw.cancelRequested)
    (hround : rd'.aborted = rd.aborted ∧ rd'.verdict = rd.verdict ∧ rd'.tableFull = rd.tableFull) :
    sw'.courseAtRoundEnd rd' retries false =
      if sw.faultSeen then some .lineError
      else if rd.aborted then some .aborted
      else if rd.verdict = some .empty then some .ok
      else if rd.tableFull then some .tableFull
      else if retries ≤ sw'.consecutiveNoisy then some .noisy
      else if sw.cancelRequested then some .cancelled
      else none := by
  obtain ⟨hseen, hcancel⟩ := hsweep
  obtain ⟨haborted, hverdict, hfull⟩ := hround
  unfold Sweep.courseAtRoundEnd
  simp only [hseen, hcancel, haborted, hverdict, hfull, Bool.false_eq_true, if_false]

/-- Whether a claim placed as a round ends is seen is open only where this boundary's decision would grant it (log 29). -/
theorem State.roundClaimSeen_open (s : State) : ∃ seen n, s.roundClaimSeen =
      { s with line := { s.line with boundary := s.line.boundary && seen }, freeIndex := n } ∧
    (s.run.state ≠ .running ∨ s.timer.window ≠ .openWin ∨ s.timer.left < 388 + s.rw → seen = true) := by
  rcases s.roundClaimSeen_cases with heq | ⟨hst, hw, -, hfits, heq | heq⟩
  · exact ⟨true, s.freeIndex, by rw [heq, Bool.and_true], fun _ => rfl⟩
  · exact ⟨true, s.freeIndex + 1, by rw [heq, Bool.and_true]; rfl, fun _ => rfl⟩
  · refine ⟨false, s.freeIndex + 1, by rw [heq, Bool.and_false]; rfl, fun h => ?_⟩
    rcases h with h | h | h
    · exact absurd hst h
    · exact absurd hw h
    · omega

/-- Settles O36: the gap ends the round (`State.finishRound_eq`) and the sweep takes its course (`State.discRoundEnd_course`,
`State.discRoundEnd_draining`). -/
theorem roundEndCourse : Obligations.RoundEndCourse := by
  intro s r sw rd hr howner hphase htime hafter hd failed sw' roster boundary written ended course
  have hexec : exec .closingGapEnd s = .next (((s.gapOver r).finishRound r).lineFree.roundClaimSeen) := by
    rw [exec_closingGapEnd_over hr hphase htime]
    unfold State.gapEnd
    rw [howner, hafter]
  have hover : (s.gapOver r).finishRound r = ((s.gapOver r).roundOver r sw rd).discRoundEnd :=
    State.finishRound_eq (by rw [State.gapOver_eq]; exact hd) r
  have hretries := (s.gapOver r).roundOver_discRetries r sw rd
  rw [State.gapOver_eq] at hexec hover hretries
  rw [hover] at hexec
  generalize hv : State.roundOver _ r sw rd = v at hexec hretries
  have hdisc : v.disc = .inRound sw' (if r.part = .contend then { rd with phase := .closing } else rd) := by rw [← hv]; rfl
  have hrun : v.run = s.run := by rw [← hv]
  have hchain := Sweep.courseAtRoundEnd_marks (sw := sw) (sw' := sw') (rd := rd)
    (rd' := if r.part = .contend then { rd with phase := .closing } else rd) s.roster.discRetries
    (by dsimp only [sw']; split <;> exact ⟨rfl, rfl⟩) (by split <;> exact ⟨rfl, rfl, rfl⟩)
  have hcourses : v.roundCourse sw' (if r.part = .contend then { rd with phase := .closing } else rd) = course := by
    have hwindow : v.timer = s.timer ∧ v.rw = s.rw := by rw [← hv]; exact ⟨rfl, rfl⟩
    unfold State.roundCourse
    rw [hretries, hwindow.1, hwindow.2]
    refine (congrArg (Option.or · _) hchain).trans ?_
    dsimp only [course]
    split_ifs <;> rfl
  refine ⟨fun o hst hcourse => ?_, fun hst hcourse => ?_, fun hst => ?_⟩
  · have hst' : v.run.state ≠ .draining := by rw [hrun]; exact hst
    have hends : v.discRoundEnd = v.endSweep sw' o := by
      rw [State.discRoundEnd_course hdisc hst', hcourses, hcourse]
    rw [hexec, hends, State.lineFree_of_not_draining (s := v.endSweep sw' o) hst',
      (v.endSweep sw' o).roundClaimSeen_cases.resolve_right fun h => Bool.false_ne_true h.2.2.1, ← hv]
    rfl
  · have hst' : v.run.state ≠ .draining := by rw [hrun]; exact hst
    have hgoes : v.discRoundEnd = (v.setDisc (.sweeping sw')).setRoundClaim true := by
      rw [State.discRoundEnd_course hdisc hst', hcourses, hcourse]
    rw [hexec, hgoes, State.lineFree_of_not_draining (s := (v.setDisc (.sweeping sw')).setRoundClaim true) hst']
    obtain ⟨seen, n, heq, hseen⟩ := ((v.setDisc (.sweeping sw')).setRoundClaim true).roundClaimSeen_open
    rw [heq]
    refine ⟨seen, n, by rw [← hv]; rfl, fun h => hseen ?_⟩
    rw [← hv]
    exact h
  · have hdrains : v.run.state = .draining := by rw [hrun]; exact hst
    have hends := State.discRoundEnd_draining hdisc hdrains
    rw [hretries, hchain] at hends
    generalize ho : Option.getD _ LineOutcome.stopped = o at hends
    rw [hends, State.lineFree_draining (s := v.endSweep sw' o) hdrains] at hexec
    have hframe := State.reqLeave_engineFrame (v.endSweep sw' o).enterOff.schedLeave
    obtain ⟨hidle, hnoround⟩ := State.reqLeave_disc (s := (v.endSweep sw' o).enterOff.schedLeave) RunState.noConfusion
    have huntaken := State.reqLeave_untaken (s := (v.endSweep sw' o).enterOff.schedLeave)
    generalize hu : (v.endSweep sw' o).enterOff.schedLeave.reqLeave = u at hexec hframe hidle hnoround huntaken
    have hoff : u.run = { s.run with state := .off, check := .idle } := by rw [hframe, ← hv]; rfl
    rw [State.roundClaimSeen_not_running (by rw [hoff]; exact nofun)] at hexec
    refine ⟨u, o, hexec, ?_, hidle, ?_, fun hhead => ?_, hoff, ?_, ?_, hnoround, ?_, ?_, ?_, ?_, ?_⟩
    · rw [← ho]; split_ifs <;> rfl
    · rw [hframe, ← hv]; rfl
    · rw [huntaken (by rw [← hv]; exact hhead), ← hv]; rfl
    · rw [hframe, ← hv]; exact s.timer.closed_close
    · rw [hframe, ← hv]; rfl
    · rw [hframe, ← hv]; rfl
    · rw [hframe, ← hv]; rfl
    · rw [hframe, ← hv]; rfl
    · rw [hframe, ← hv]; rfl
    · rw [hframe, ← hv]; rfl

end Sys2Proof.Machine
end

section
/-! PROOFS. The end of an attempt outside DRAINING: the outcome reaches the Roster and then the attempt's owner, which claims a
retry or ends its issue or its request (R76, R113, R116, R117, R123, R130, R138, R140 to R142, R144). -/

namespace Sys2Proof.Machine

open Sys2Proof

variable {s t : State} {r : Record} {n : Nat} {o : LineOutcome}

/-! ### The end of an attempt's closing gap (R76) -/

/-- The line is free, and the Roster has taken the outcome. -/
abbrev State.told (s : State) (r : Record) (o : LineOutcome) : State :=
  { s with
    line := { s.line with record := none, boundary := if r.offGrid then false else s.line.boundary }
    roster := s.roster.deliver (r.exchange == some .release) o r.dest s.timer.cycle }

theorem exec_closingGapEnd_claim {c : ClaimOwner} (hr : s.line.record = some r) (howner : r.owner = .claim c)
    (hphase : r.phase = .closing) (htime : closingGap ≤ r.phaseTime) (hout : r.outcome = some o)
    (hst : s.run.state ≠ .draining) : exec .closingGapEnd s = .next ((s.gapOver r).deliver r o) := by
  have hgap : (s.gapOver r).gapEnd r = ((s.gapOver r).deliver r o).lineFree := by
    unfold State.gapEnd
    simp only [howner, hout, Option.getD_some]
  have hrun : ((s.gapOver r).deliver r o).run = s.run := by
    rw [((s.gapOver r).deliver_acts r o).run, State.gapOver_eq]
    rfl
  rw [exec_closingGapEnd_over hr hphase htime, hgap, State.lineFree_of_not_draining]
  rw [hrun]
  exact hst

theorem exec_closingGapEnd_scheduler (hr : s.line.record = some r) (howner : r.owner = .claim (.scheduler n))
    (hphase : r.phase = .closing) (htime : closingGap ≤ r.phaseTime) (hout : r.outcome = some o)
    (hst : s.run.state ≠ .draining) : exec .closingGapEnd s = .next ((s.told r o).schedOutcome n o r.reply) := by
  rw [exec_closingGapEnd_claim hr howner hphase htime hout hst]
  unfold State.deliver
  simp only [howner, State.gapOver_eq]
  rfl

theorem exec_closingGapEnd_request {tag : Nat} (hr : s.line.record = some r) (howner : r.owner = .claim (.request tag))
    (hphase : r.phase = .closing) (htime : closingGap ≤ r.phaseTime) (hout : r.outcome = some o)
    (hst : s.run.state ≠ .draining) : exec .closingGapEnd s = .next ((s.told r o).reqOutcome o r.attempt r.reply) := by
  rw [exec_closingGapEnd_claim hr howner hphase htime hout hst]
  unfold State.deliver
  simp only [howner, State.gapOver_eq]
  rfl

/-! ### The outcome at the Scheduler (R116, R117, R123, R130) -/

/-- The outcome in the mailbox of entry `n`, and `e` in the entry. -/
abbrev State.scheduled (s : State) (n : Nat) (e : SchedEntry) (o : LineOutcome) (reply : Reply) : State :=
  ((s.setEntry n e).setMailbox n ((s.mailbox n).taken (s.entry n) o reply s.timer.cycle)).setSticky { s.host.sticky with
    mbx := s.host.sticky.mbx ||
      (o == .ok && (s.entry n).direction != 1 && !((s.mailbox n).full && (s.entry n).policy == 0)) }

theorem State.scheduled_entry_self (s : State) (hn : n < 32) (e : SchedEntry) (o : LineOutcome) (reply : Reply) :
    (s.scheduled n e o reply).entry n = e := State.entry_setEntry_self s hn e

theorem State.scheduled_entry_ne (s : State) {k : Nat} (hk : k ≠ n) (e : SchedEntry) (o : LineOutcome) (reply : Reply) :
    (s.scheduled n e o reply).entry k = s.entry k := State.entry_setEntry_ne s hk e

theorem State.scheduled_mailbox_self (s : State) (hn : n < 32) (e : SchedEntry) (o : LineOutcome) (reply : Reply) :
    (s.scheduled n e o reply).mailbox n = (s.mailbox n).taken (s.entry n) o reply s.timer.cycle :=
  State.mailbox_setMailbox_self _ hn _

theorem State.scheduled_mailbox_ne (s : State) {k : Nat} (hk : k ≠ n) (e : SchedEntry) (o : LineOutcome) (reply : Reply) :
    (s.scheduled n e o reply).mailbox k = s.mailbox k := State.mailbox_setMailbox_ne _ hk _

/-- A READ mailbox that can take the reply raises MBX (R123, R127). -/
theorem State.scheduled_mbx {e : SchedEntry} {reply : Reply} (ho : o = .ok) (hread : (s.entry n).isWrite = false)
    (hfill : (s.mailbox n).full = false ∨ (s.entry n).policy ≠ 0) :
    (s.scheduled n e o reply).host.sticky.mbx = true := by
  have hdirection : ((s.entry n).direction != 1) = true := by simpa [SchedEntry.isWrite] using hread
  have hroom : ((s.mailbox n).full && (s.entry n).policy == 0) = false := by
    rcases hfill with h | h
    · rw [h, Bool.false_and]
    · rw [beq_eq_false_iff_ne.2 h, Bool.and_false]
  show (s.host.sticky.mbx || _) = true
  rw [ho, hdirection, hroom]
  exact Bool.or_true _

/-- Any other outcome leaves the Host Port. -/
theorem State.scheduled_host {e : SchedEntry} {reply : Reply}
    (h : o ≠ .ok ∨ (s.entry n).isWrite = true ∨ (s.mailbox n).full = true ∧ (s.entry n).policy = 0) :
    (s.scheduled n e o reply).host = s.host := by
  have hno : (o == .ok && (s.entry n).direction != 1 && !((s.mailbox n).full && (s.entry n).policy == 0)) = false := by
    rcases h with h | h | ⟨hfull, hpolicy⟩
    · rw [beq_eq_false_iff_ne.2 h, Bool.false_and, Bool.false_and]
    · rw [show ((s.entry n).direction != 1) = false by simpa [SchedEntry.isWrite] using h, Bool.and_false, Bool.false_and]
    · rw [hfull, hpolicy, beq_self_eq_true, Bool.and_self, Bool.not_true, Bool.and_false]
  show ({ s.host with sticky := { s.host.sticky with mbx := s.host.sticky.mbx || _ } } : HostPort) = s.host
  rw [hno, Bool.or_false]

/-- A retryable outcome whose conditions hold claims a retry; any other ends the issue, and the Scheduler chooses. -/
theorem State.schedOutcome_eq (hs : (s.entry n).status = .inFlight) (o : LineOutcome) (reply : Reply) :
    s.schedOutcome n o reply =
      if o.retryable && s.schedRetry n then
        (s.scheduled n ((s.entry n).noteOutcome o reply s.timer.cycle) o reply).setSchedClaim
          (some ((s.entry n).claim n ((s.entry n).attempt + 1)))
      else (s.scheduled n ((s.entry n).ended o reply s.timer.cycle) o reply).choose := by
  have hn : n < 32 := s.entry_lt_of_status (by simp [hs])
  have hset : ∀ a b : SchedEntry, (s.sched.entries.set n a).set n b = s.sched.entries.set n b := fun a b =>
    Table.ext_cells (by simp [Table.set])
  have hended : ((s.entry n).noteOutcome o reply s.timer.cycle).endIssue
      (o.retryable || o == .addressMismatch || o == .lineError) = (s.entry n).ended o reply s.timer.cycle := by
    unfold SchedEntry.endIssue SchedEntry.noteOutcome SchedEntry.ended
    cases o <;> simp [LineOutcome.retryable, satSucc]
  have hnoted : (s.setEntry n ((s.entry n).noteOutcome o reply s.timer.cycle)).mailboxOutcome n o reply =
      s.scheduled n ((s.entry n).noteOutcome o reply s.timer.cycle) o reply := by
    rw [State.mailboxOutcome_eq _ hn, State.entry_setEntry_self _ hn]
    rfl
  have hentry : ∀ e, (s.scheduled n e o reply).entry n = e := fun e => State.entry_setEntry_self s hn e
  have hretry : (s.scheduled n ((s.entry n).noteOutcome o reply s.timer.cycle) o reply).schedRetry n = s.schedRetry n := by
    unfold State.schedRetry
    rw [hentry]
    rfl
  have hagain : ∀ a b, (s.scheduled n a o reply).setEntry n b = s.scheduled n b o reply := fun a b => by
    show ({ s with sched := { s.sched with entries := (s.sched.entries.set n a).set n b, mailboxes := _ }, host := _ } :
      State) = _
    rw [hset]
    rfl
  unfold State.schedOutcome
  dsimp only
  rw [hnoted, hentry, hretry, if_neg (by simp [SchedEntry.noteOutcome, hs]), hended, hagain]
  rfl

theorem LineOutcome.retryable_iff (o : LineOutcome) :
    o.retryable = true ↔ o = .timeout ∨ o = .checkError ∨ o = .lengthError := by
  cases o <;> simp [LineOutcome.retryable]

/-- The conditions of a retry (R117). -/
theorem State.schedRetry_iff (s : State) (n : Nat) : s.schedRetry n = true ↔
    (s.entry n).attempt < 1 + (s.entry n).retries.toNat ∧ (s.entry n).disablePending = false ∧ s.run.state = .running ∧
      s.timer.window = .sched ∧ s.roster.issuable (s.entry n).target.toNat = true ∧
      (s.entry n).reservation s.rw ≤ s.timer.left := by
  simp [State.schedRetry, State.scheduling, and_assoc]

/-- Settles O39: the conditions hold once the Roster has the outcome, so `State.schedOutcome_eq` claims the retry. -/
theorem scheduledRetry : Obligations.ScheduledRetry := by
  intro s r n o hr howner hphase htime hout hrelease hn ho hflight hattempt hdisable hrun hwindow hissuable hfits
  have hdelivered : (r.exchange == some .release) = false := beq_eq_false_iff_ne.2 hrelease
  have hexec := exec_closingGapEnd_scheduler hr howner hphase htime hout (by rw [hrun]; exact nofun)
  have hretry : (s.told r o).schedRetry n = true := (State.schedRetry_iff _ n).2
    ⟨hattempt, hdisable, hrun, hwindow, by dsimp only; rw [hdelivered]; exact hissuable, hfits⟩
  have hok : o ≠ .ok := by rcases ho with rfl | rfl | rfl <;> exact nofun
  rw [State.schedOutcome_eq (s := s.told r o) hflight, (LineOutcome.retryable_iff o).2 ho, hretry, Bool.and_self,
    if_pos rfl] at hexec
  refine ⟨_, hexec, rfl, ?_, ?_, ?_, rfl, rfl, rfl, State.scheduled_host (s := s.told r o) (.inl hok)⟩
  · show ((State.setEntry _ n _).entry n).status = .inFlight
    rw [State.entry_setEntry_self _ hn]
    exact hflight
  · exact congrArg some (SchedEntry.claim_eq _ _ _)
  · show s.roster.deliver _ _ _ _ = _
    rw [hdelivered]

/-! ### The mailbox of an attempt's entry (R123, R130) -/

theorem Mailbox.taken_write (m : Mailbox) {e : SchedEntry} (hw : e.isWrite = true) (o : LineOutcome) (reply : Reply)
    (cycle : Word) : m.taken e o reply cycle =
      { m with fresh := if o = .ok then m.fresh && m.replaced else m.fresh, replaced := false } :=
  if_pos (beq_iff_eq.1 hw)

theorem Mailbox.taken_read (m : Mailbox) {e : SchedEntry} (hw : e.isWrite = false) (o : LineOutcome) (reply : Reply)
    (cycle : Word) : m.taken e o reply cycle =
      if o ≠ .ok then m
      else if m.full = false then { m with data := reply.payload, fillCycle := cycle, full := true }
      else if e.policy = 0 then { m with overrun := min (m.overrun + 1) 255 }
      else { m with data := reply.payload, fillCycle := cycle, overrun := min (m.overrun + 1) 255 } :=
  if_neg fun hd => by simp [SchedEntry.isWrite, hd] at hw

/-- Settles O38: the issue ends in `State.scheduled`, from which the Scheduler chooses. -/
theorem scheduledOutcomeEndsIssue : Obligations.ScheduledOutcomeEndsIssue := by
  intro s r n o hr howner hphase htime hout hrelease hst hn hflight e m roster retryable hnoretry
  have hdelivered : (r.exchange == some .release) = false := beq_eq_false_iff_ne.2 hrelease
  have hexec := exec_closingGapEnd_scheduler hr howner hphase htime hout hst
  have hroster : (s.told r o).roster = roster := by dsimp only; rw [hdelivered]
  have hends : (o.retryable && (s.told r o).schedRetry n) = false := by
    refine Bool.eq_false_iff.2 fun hretry => ?_
    obtain ⟨ho, hconditions⟩ := Bool.and_eq_true_iff.1 hretry
    rw [State.schedRetry_iff, hroster] at hconditions
    obtain ⟨hattempt, hdisable, hrun, hwindow, hissuable, hfits⟩ := hconditions
    exact hnoretry ((LineOutcome.retryable_iff o).1 ho) ⟨hattempt, hdisable, hrun, hwindow, hissuable, hfits⟩
  rw [State.schedOutcome_eq (s := s.told r o) hflight, hends, if_neg Bool.false_ne_true] at hexec
  generalize hu : (s.told r o).scheduled n ((s.entry n).ended o r.reply s.timer.cycle) o r.reply = u
  have hentry : u.entry n = (s.entry n).ended o r.reply s.timer.cycle := by
    rw [← hu]; exact (s.told r o).scheduled_entry_self hn _ _ _
  have hbox : u.mailbox n = m.taken e o r.reply s.timer.cycle := by
    rw [← hu]; exact (s.told r o).scheduled_mailbox_self hn _ _ _
  have hboxes : ∀ k, u.choose.mailbox k = u.mailbox k := fun k => by rw [State.mailbox, State.mailbox, State.choose_mailboxes]
  have hkept : u.run = s.run ∧ u.timer = s.timer ∧ u.line.record = none ∧ u.disc = s.disc ∧ u.req = s.req ∧
      u.roster = roster ∧ u.line.schedClaim = s.line.schedClaim := by
    rw [← hu]; exact ⟨rfl, rfl, rfl, rfl, rfl, hroster, rfl⟩
  obtain ⟨hrun, htimer, hrecord, hdisc, hreq, hroster', hclaim⟩ := hkept
  have hchosen : u.choose.entry n = u.entry n := State.choose_entry_of_not_due _ (by
    rw [hentry, SchedEntry.ended_status]; split <;> exact nofun)
  have hscheduling : u.scheduling = true ↔ s.run.state = .running ∧ s.timer.window = .sched := by
    simp [State.scheduling, hrun, htimer]
  have hhost : o ≠ .ok ∨ e.isWrite = true ∨ m.full = true ∧ e.policy = 0 → u.choose.host = s.host := fun h => by
    rw [State.choose_host, ← hu]; exact State.scheduled_host (s := s.told r o) h
  have hmbx : o = .ok → e.isWrite = false → m.full = false ∨ e.policy ≠ 0 → u.choose.host.sticky.mbx = true :=
    fun ho hread hfill => by rw [State.choose_host, ← hu]; exact State.scheduled_mbx (s := s.told r o) ho hread hfill
  refine ⟨u.choose, u, by rw [hexec, ← hu]; rfl, by rw [State.choose_run, hrun], by rw [State.choose_timer, htimer],
    by rw [State.choose_line_record, hrecord], by rw [State.choose_disc, hdisc], by rw [State.choose_req, hreq],
    by rw [State.choose_roster, hroster'], ?_,
    ⟨hchosen.symm, fun k hk => ?_, hroster', htimer, (State.choose_mailboxes _).symm,
      fun hrun' hwindow => State.choose_chosen _ (hscheduling.2 ⟨hrun', hwindow⟩), fun hnot => ?_⟩, fun k hk => ?_,
    fun hwrite => ⟨?_, hhost (.inr (.inl hwrite))⟩, fun hread ho => ⟨?_, hhost (.inl ho)⟩,
    fun hread ho hfull => ⟨hmbx ho hread (.inl hfull), ?_⟩,
    fun hread ho hfull hpolicy => ⟨hhost (.inr (.inr ⟨hfull, hpolicy⟩)), ?_⟩,
    fun hread ho hfull hpolicy => ⟨hmbx ho hread (.inr hpolicy), ?_⟩⟩
  · rw [hchosen, hentry]
    simp only [SchedEntry.ended, retryable, or_assoc]
    rfl
  · rw [← hu]; exact (s.told r o).scheduled_entry_ne hk _ _ _
  · have hnever : u.choose = u := State.choose_of_not_scheduling _ (Bool.eq_false_iff.2 fun h => hnot (hscheduling.1 h))
    rw [hnever]
    exact ⟨fun _ => rfl, hclaim⟩
  · rw [hboxes, ← hu]; exact (s.told r o).scheduled_mailbox_ne hk _ _ _
  · rw [hboxes, hbox, Mailbox.taken_write _ hwrite]
  · rw [hboxes, hbox, Mailbox.taken_read _ hread, if_pos ho]
  · rw [hboxes, hbox, Mailbox.taken_read _ hread, if_neg (not_not.2 ho), if_pos hfull]
  · rw [hboxes, hbox, Mailbox.taken_read _ hread, if_neg (not_not.2 ho), if_neg (by simp [hfull]), if_pos hpolicy]
  · rw [hboxes, hbox, Mailbox.taken_read _ hread, if_neg (not_not.2 ho), if_neg (by simp [hfull]), if_neg hpolicy]

/-! ### The outcome at the Request Engine (R138, R140 to R142, R144) -/

theorem Roster.issuable_iff_state (roster : Roster) (a : Nat) :
    roster.issuable a = true ↔ (roster.entry a).state = .active ∨ (roster.entry a).state = .suspect := by
  unfold Roster.issuable StationEntry.issuable
  cases (roster.entry a).state <;> simp

/-- The target of a claim of each kind (R137, R141). -/
theorem Request.targetPasses_issuable {q : Request} (h : q.kind = .read ∨ q.kind = .write ∨ q.kind = .probe)
    (roster : Roster) : q.targetPasses roster = roster.issuable q.address := by
  unfold Request.targetPasses
  rcases h with h | h | h <;> rw [h]

theorem Request.targetPasses_releasable {q : Request} (h : q.kind = .release) (roster : Roster) :
    q.targetPasses roster = roster.releasable q.address := by
  unfold Request.targetPasses
  rw [h]

/-- The fields of a completion (R142). -/
theorem Request.completion_eq (q : Request) (o : LineOutcome) (n : Nat) (reply : Reply) :
    let bytes := (q.kind = .read ∧ o = .ok) ∨ (q.kind = .probe ∧ (o = .ok ∨ o = .identityMismatch))
    q.completion o n reply = {
      tag := q.tag, kind := q.kind, address := q.address, outcome := o, attempts := n
      status := if o = .ok ∨ o = .nak ∨ o = .identityMismatch then reply.status else .ok
      length := if bytes then reply.length else 0
      payload := if bytes then reply.payload else []
      newStations := 0, rejoined := 0, rounds := 0, totalNoisy := 0 } := by
  intro bytes
  unfold Request.completion
  cases o
  case ok => by_cases hreturned : q.kind = .read ∨ q.kind = .probe <;> simp [bytes, hreturned]
  case identityMismatch => by_cases hprobe : q.kind = .probe <;> simp [bytes, hprobe]
  all_goals simp [bytes]

/-- A retryable outcome with attempts left, in RUNNING, with a target that passes, claims a retry (R141). -/
theorem State.reqOutcome_eq {q : Request} {behind : List Request} (hq : s.req.queue = q :: behind) (o : LineOutcome)
    (attempt : Nat) (reply : Reply) : s.reqOutcome o attempt reply =
      if (o = .timeout ∨ o = .checkError ∨ o = .lengthError) ∧ attempt < 1 + q.retries ∧ s.run.state = .running ∧
          q.targetPasses s.roster = true then
        (s.setReqClaim (some (q.claim (attempt + 1) s.roster))).setHead (.retryWaiting o attempt)
      else s.finishHead o attempt reply := by
  unfold State.reqOutcome
  rw [hq]
  dsimp only
  refine if_congr ?_ rfl rfl
  simp only [Bool.and_eq_true, LineOutcome.retryable_iff, decide_eq_true_eq, beq_iff_eq, and_assoc]

/-- Settles O40: `State.reqOutcome_eq` and the completion of the head. -/
theorem requestOutcomeCompletes : Obligations.RequestOutcomeCompletes := by
  refine ⟨?_, fun q n roster => ⟨fun h => ?_, fun h => ?_, fun h => ?_, fun h => ?_, fun h => ?_, fun h => ?_⟩,
    fun q o n reply => q.completion_eq o n reply⟩
  · intro s r tag o q behind hr howner hphase htime hout hq hst roster retried
    have hexec := exec_closingGapEnd_request hr howner hphase htime hout hst
    have hframe := (s.told r o).reqOutcome_engineFrame o r.attempt r.reply
    have houtcome := State.reqOutcome_eq (s := s.told r o) hq o r.attempt r.reply
    generalize (s.told r o).reqOutcome o r.attempt r.reply = t at hexec hframe houtcome
    refine ⟨t, hexec, by rw [hframe], by rw [hframe], by rw [hframe], by rw [hframe], by rw [hframe], by rw [hframe],
      fun hretried => ?_, fun hretried => ?_⟩
    · rw [if_pos hretried] at houtcome
      rw [houtcome]
      exact ⟨rfl, rfl, rfl⟩
    · rw [if_neg hretried] at houtcome
      obtain ⟨hcompletions, hqueue⟩ := State.finishHead_extends (s := s.told r o) hq o r.attempt r.reply
      rw [houtcome]
      refine ⟨hcompletions, hqueue, fun hbehind => ?_⟩
      rw [State.finishHead_single (s := s.told r o) (hbehind ▸ hq)]
      exact ⟨rfl, rfl, rfl⟩
  · simp only [Request.claim, h]
  · simp only [Request.claim, h]
  · simp only [Request.claim, h]
  · simp only [Request.claim, h]
  · rw [Request.targetPasses_issuable h, Roster.issuable_iff_state]
  · rw [Request.targetPasses_releasable h, Roster.releasable, Bool.or_eq_true, Roster.issuable_iff_state, beq_iff_eq, or_assoc]

end Sys2Proof.Machine
end

section
/-! PROOFS. The reply to a round's ASSIGN: what the unit makes of it, the settlement of the entry, and the counts of the sweep
(R33, R73, R92, R93). -/

namespace Sys2Proof.Machine

open Sys2Proof

variable {s : State} {r : Record} {e : StationEntry} {roster : Roster} {sw : Sweep} {rd : Round} {o : LineOutcome}

/-! ### The outcome of a reply -/

/-- A reply that came is never judged TIMEOUT (R73, R74). -/
theorem judgeReply_ne_timeout (r : Record) (bytes : List RxByte) : (judgeReply r bytes).1 ≠ .timeout := by
  have haccepted : (acceptReply r bytes).1 ≠ .timeout := by
    unfold acceptReply
    dsimp only
    split
    · cases r.compare with
      | none => simp
      | some i => dsimp only; split <;> simp
    · simp
  unfold judgeReply
  split_ifs
  · simp
  · simp
  · simp
  · simp
  · exact haccepted

/-! ### The settlement of an entry (R33) -/

/-- A settled entry is ACTIVE with its identity and pinned mark kept and no failures (R33). -/
theorem StationEntry.settled_active (e : StationEntry) (clean : Bool) (cycle : Word) :
    (e.settled clean cycle).state = .active ∧ (e.settled clean cycle).failures = 0 ∧
      (e.settled clean cycle).identity = e.identity ∧ (e.settled clean cycle).pinned = e.pinned :=
  ⟨rfl, rfl, rfl, rfl⟩

theorem StationState.isNew_iff (st : StationState) : st.isNew = true ↔ st = .free ∨ st = .reserved := by
  simp [StationState.isNew]

theorem StationEntry.settled_new (h : e.prior.isNew = true) (clean : Bool) (cycle : Word) :
    (e.settled clean cycle).errorTotal = 0 ∧ (e.settled clean cycle).rejoins = 0 := by
  simp [StationEntry.settled, h]

theorem StationEntry.settled_known (h : e.prior.isNew = false) (clean : Bool) (cycle : Word) :
    (e.settled clean cycle).errorTotal = e.errorTotal ∧ (e.settled clean cycle).rejoins = min (e.rejoins + 1) 255 := by
  simp [StationEntry.settled, h, satSucc]

theorem StationEntry.settled_clean (e : StationEntry) (cycle : Word) :
    (e.settled true cycle).replied = true ∧ (e.settled true cycle).lastReply = cycle ∧
      (e.settled true cycle).conflict = e.conflict := by
  simp [StationEntry.settled]

theorem StationEntry.settled_conflict (e : StationEntry) (cycle : Word) :
    (e.settled false cycle).replied = e.replied ∧ (e.settled false cycle).lastReply = e.lastReply ∧
      (e.settled false cycle).conflict = true := by
  simp [StationEntry.settled]

/-- A settlement at the Roster replaces the entry and lists its address (R33, R40). -/
theorem Roster.settle_becomes {a : Nat} (h : (roster.entry a).state = .joining) (clean : Bool) (cycle : Word) :
    roster.Becomes (roster.settle a clean cycle).2 a ((roster.entry a).settled clean cycle) (roster.listed a) := by
  have ha : stationAddress a = true := Roster.station_of_state h (by decide)
  simp only [Roster.settle, if_pos h]
  exact roster.change_becomes ha _

/-! ### The settlement at the unit (R92, R93) -/

theorem Sweep.counted_new {prior : StationState} (h : prior.isNew = true) :
    sw.counted prior = { sw with newStations := min (sw.newStations + 1) 255 } := by
  simp [Sweep.counted, h, satSucc]

theorem Sweep.counted_known {prior : StationState} (h : prior.isNew = false) :
    sw.counted prior = { sw with rejoined := min (sw.rejoined + 1) 255 } := by
  simp [Sweep.counted, h, satSucc]

/-- Every outcome of the ASSIGN but TIMEOUT settles the entry, clean after OK and NAK (R92). -/
theorem State.discAssignOutcome_settles (hd : s.disc = .inRound sw rd) (ho : o ≠ .timeout) :
    s.discAssignOutcome o =
      (s.setRoster (s.roster.settle rd.address (decide (o = .ok ∨ o = .nak)) s.timer.cycle).2).setDisc
        (.inRound (sw.counted (s.roster.entry rd.address).prior) { rd with phase := .closing }) := by
  have hclean : (o == .ok || o == .nak) = decide (o = .ok ∨ o = .nak) := by
    rw [Bool.eq_iff_iff]; simp
  simp only [State.discAssignOutcome, hd, if_neg ho, hclean]
  rfl

/-- The classification of a round's ASSIGN with any outcome but TIMEOUT: the record closes and the entry is settled (R63, R92). -/
theorem State.classify_assign (howner : r.owner = .discovery) (hd : s.disc = .inRound sw rd) (ho : o ≠ .timeout)
    (reply : Reply) : s.classify r o reply = { s with
      line := { s.line with record := some { r with
        phase := .closing, outcome := some o, phaseTime := 0, reply, after := .finish } }
      roster := (s.roster.settle rd.address (decide (o = .ok ∨ o = .nak)) s.timer.cycle).2
      disc := .inRound (sw.counted (s.roster.entry rd.address).prior) { rd with phase := .closing } } := by
  rw [State.classify_discovery howner, if_neg ho]
  exact State.discAssignOutcome_settles (s := s.setRecord _) hd ho

/-! ### The two events that end the reply (R13, R73) -/

/-- The ASSIGN is classified by a reply that ends as it declares, or by the deadline that cuts it off: `c` is the event, `o` the
outcome, `offGrid` whether the event falls inside a bit time. -/
theorem exec_assignReply {c : Instr} {reply : Reply} {offGrid : Bool} (hr : s.line.record = some r)
    (hphase : r.phase = .receiving) (hpart : r.part = .assign)
    (h : (∃ bytes onGrid, c = .replyReceptionEnd bytes onGrid ∧ r.replyEnds s.rw bytes onGrid = true ∧
        (o, reply) = judgeReply r bytes ∧ offGrid = !onGrid) ∨
      (c = .replyDeadline ∧ r.frame.bits + s.rw + 10 * (6 + r.lr) ≤ r.elapsed ∧ o = .checkError ∧ reply = {} ∧
        offGrid = false)) :
    exec c s = .next (s.classify { r with offGrid } o reply) ∧ o ≠ .timeout := by
  rcases h with ⟨bytes, onGrid, rfl, hends, hjudged, rfl⟩ | ⟨rfl, htime, rfl, rfl, rfl⟩
  · obtain ⟨rfl, rfl⟩ := Prod.mk.inj hjudged
    exact ⟨congrArg Host.Outcome.next (State.onRecord_some hr (by simp [hphase, hpart, hends])),
      judgeReply_ne_timeout r bytes⟩
  · have hdue : r.due s.rw = true := by
      rw [Record.due_receiving _ hphase (by simp [hpart])]; exact decide_eq_true htime
    exact ⟨congrArg Host.Outcome.next (State.onRecord_some hr (by simp [hphase, hpart, hdue])), by decide⟩

/-- Settles O33: either event classifies the ASSIGN, and every outcome but TIMEOUT settles the entry and is counted. -/
theorem assignReplySettles : Obligations.AssignReplySettles := by
  intro s r sw rd c o reply offGrid hr howner hphase hpart hevent hd hjoining e clean isNew
  obtain ⟨hexec, ho⟩ := exec_assignReply hr hphase hpart hevent
  rw [State.classify_assign (r := { r with offGrid }) howner hd ho reply] at hexec
  have hnew : e.prior.isNew = true ↔ isNew := StationState.isNew_iff _
  have hknown : e.prior.isNew = false ↔ ¬ isNew := by rw [← hnew, Bool.not_eq_true]
  obtain ⟨hactive, hfailures, hidentity, hpinned⟩ := e.settled_active (decide clean) s.timer.cycle
  refine ⟨_, _, hexec, rfl, rfl, Roster.settle_becomes hjoining _ _, hactive, hfailures, hidentity, hpinned,
    fun h => StationEntry.settled_new (hnew.2 h) _ _, fun h => StationEntry.settled_known (hknown.2 h) _ _,
    fun h => ?_, fun h => ?_, fun h => ?_, fun h => ?_⟩
  · have hclean : decide (o = .ok ∨ o = .nak) = true := decide_eq_true h
    rw [hclean]
    exact e.settled_clean _
  · have hclean : decide (o = .ok ∨ o = .nak) = false := decide_eq_false h
    rw [hclean]
    exact e.settled_conflict _
  · exact congrArg (Discovery.inRound · _) (Sweep.counted_new (hnew.2 h))
  · exact congrArg (Discovery.inRound · _) (Sweep.counted_known (hknown.2 h))

end Sys2Proof.Machine
end

section
/-! PROOFS. CANCEL: the record that holds the tag leaves the queue, or the sweep that holds it ends or is marked (R98, R146, R171). -/

namespace Sys2Proof.Machine

open Sys2Proof

variable {s : State} {q : Request} {front behind : List Request} {sw : Sweep} {rd : Round}

/-! ### Where the tag stands -/

theorem State.exec_cancel (h : s.accepts) : exec .cancel s = .next (s.setCmd 0x51).cancel :=
  congrArg Host.Outcome.next (State.command_accepted h _ _)

theorem State.cancel_badTag (h : 255 < s.host.argNat) : s.cancel = s.setResult .badArg 0 := if_pos h

/-- The first record with a tag stands behind those without it. -/
theorem findIdx?_tag {tag : Nat} (hq : q.tag = tag) (hfront : ∀ p ∈ front, p.tag ≠ tag) :
    (front ++ q :: behind).findIdx? (fun p => p.tag == tag) = some front.length := by
  rw [List.findIdx?_append, List.findIdx?_eq_none_iff.2 fun p hp => by simpa using hfront p hp, List.findIdx?_cons]
  simp [hq]

/-- The tag at the head of the queue (R146). -/
theorem State.cancel_head (htag : s.host.argNat ≤ 255) (hqueue : s.req.queue = q :: behind) (hq : q.tag = s.host.argNat) :
    s.cancel = s.cancelHead := by
  have hfound := findIdx?_tag (front := []) (behind := behind) hq (by simp)
  simp only [State.cancel, if_neg (Nat.not_lt.2 htag), hqueue]
  rw [List.nil_append] at hfound
  simp only [hfound, List.length_nil]

/-- The tag behind the head: the record leaves the queue (R146). -/
theorem State.cancel_behind (htag : s.host.argNat ≤ 255) (hqueue : s.req.queue = front ++ q :: behind) (hne : front ≠ [])
    (hq : q.tag = s.host.argNat) (hfront : ∀ p ∈ front, p.tag ≠ s.host.argNat) :
    s.cancel = (s.setQueue (front ++ behind)).setResult .done 0 := by
  obtain ⟨i, hi⟩ := Nat.exists_eq_succ_of_ne_zero (mt List.length_eq_zero_iff.1 hne)
  have hfound := findIdx?_tag (behind := behind) hq hfront
  have herase : (front ++ q :: behind).eraseIdx (i + 1) = front ++ behind := by
    rw [List.eraseIdx_append_of_length_le (by omega), hi, Nat.sub_self]
    rfl
  rw [hi] at hfound
  simp only [State.cancel, if_neg (Nat.not_lt.2 htag), hqueue, hfound, herase]

/-- The tag of no request: the sweep's, or nobody's (R98, R146). -/
theorem State.cancel_absent (htag : s.host.argNat ≤ 255) (h : ∀ p ∈ s.req.queue, p.tag ≠ s.host.argNat) : s.cancel =
    if s.disc.tag = some s.host.argNat then s.cancelSweep.setResult .done 1 else s.setResult .notFound 0 := by
  have hnone : s.req.queue.findIdx? (fun p => p.tag == s.host.argNat) = none :=
    List.findIdx?_eq_none_iff.2 fun p hp => by simpa using h p hp
  simp only [State.cancel, if_neg (Nat.not_lt.2 htag), hnone]

/-! ### The head before and after its first grant (R146) -/

theorem State.cancelHead_untaken (h : s.req.head = .untaken) (hqueue : s.req.queue = q :: behind) :
    s.cancelHead = ((s.setQueue behind).setResult .done 0).takeUp := by
  simp only [State.cancelHead, h, hqueue, List.tail_cons]

theorem State.cancelHead_claimed (h : s.req.head = .claimed) (hqueue : s.req.queue = q :: behind) :
    s.cancelHead = (((((s.setReqClaim none).setReservations (s.req.reservations - 1)).setQueue behind).setHead
      .untaken).setResult .done 0).takeUp := by
  simp only [State.cancelHead, h, hqueue, List.tail_cons]

/-- Before its first grant the head leaves the queue, and the record behind it is examined in a state that differs in the engine and
its claim alone. -/
theorem State.cancelHead_ungranted (h : s.req.head = .untaken ∨ s.req.head = .claimed) (hqueue : s.req.queue = q :: behind) :
    ∃ u : State, s.cancelHead = u.takeUp ∧ u.host = (s.setResult .done 0).host ∧ u.roster = s.roster ∧ u.run = s.run ∧
      u.timer = s.timer ∧ u.sched = s.sched ∧ u.line.record = s.line.record ∧ u.req.queue = behind ∧
      u.req.completions = s.req.completions := by
  rcases h with h | h
  · exact ⟨_, State.cancelHead_untaken h hqueue, rfl, rfl, rfl, rfl, rfl, rfl, rfl, rfl⟩
  · exact ⟨_, State.cancelHead_claimed h hqueue, rfl, rfl, rfl, rfl, rfl, rfl, rfl, rfl⟩

/-- A head IN_FLIGHT stays: its attempt is on the line, or its retry waits (R146). -/
theorem State.cancelHead_inFlight (h : s.req.head = .onLine ∨ s.req.head.isRetryWaiting = true) :
    s.cancelHead = s.setResult .inFlight 0 := by
  unfold State.cancelHead
  cases hhead : s.req.head with
  | untaken | claimed => simp [hhead, HeadCondition.isRetryWaiting] at h
  | onLine | retryWaiting o n => rfl

/-! ### A sweep (R98) -/

theorem State.cancelSweep_sweeping (hd : s.disc = .sweeping sw) : s.cancelSweep = { s with
    line := { s.line with roundClaim := false }
    disc := .idle
    req := { s.req with
      completions := s.req.completions ++ [sw.completion .cancelled], reservations := s.req.reservations - 1 } } := by
  simp only [State.cancelSweep, hd]
  rfl

theorem State.cancelSweep_inRound (hd : s.disc = .inRound sw rd) :
    s.cancelSweep = { s with disc := .inRound { sw with cancelRequested := true } rd } := by
  simp only [State.cancelSweep, hd]
  rfl

/-- Settles O56: the place of the tag decides; a record taken up behind a cancelled head changes what `State.takeUp_frame` says. -/
theorem cancelWithdraws : Obligations.CancelWithdraws := by
  intro s hs tag
  rw [State.exec_cancel hs]
  refine ⟨fun hbad => congrArg Host.Outcome.next (State.cancel_badTag (s := s.setCmd 0x51) hbad), fun htag => ?_⟩
  refine ⟨fun q front behind hqueue hne hq hfront => ?_, fun q behind hqueue hq => ?_, fun habsent => ?_⟩
  · exact congrArg Host.Outcome.next (State.cancel_behind (s := s.setCmd 0x51) htag hqueue hne hq hfront)
  · rw [State.cancel_head (s := s.setCmd 0x51) htag hqueue hq]
    refine ⟨fun hhead hidle => ?_, fun hhead hbehind => ?_, fun hhead => ?_, fun hhead => ?_⟩
    · rw [State.cancelHead_untaken (s := s.setCmd 0x51) hhead hqueue, State.takeUp_idle (hidle.symm.imp_right .inr)]
      rfl
    · rw [State.cancelHead_claimed (s := s.setCmd 0x51) hhead hqueue, State.takeUp_empty _ hbehind, hbehind]
      rfl
    · obtain ⟨u, hu, hhost, hroster, hrun, htimer, hsched, hrecord, hleft, hcompletions⟩ :=
        State.cancelHead_ungranted (s := s.setCmd 0x51) hhead hqueue
      obtain ⟨-, hsuffix, hprefix⟩ := u.takeUp_frame
      rw [hleft] at hsuffix
      rw [hcompletions] at hprefix
      exact ⟨u.takeUp, congrArg Host.Outcome.next hu, u.takeUp_host.trans hhost, u.takeUp_roster.trans hroster,
        u.takeUp_run.trans hrun, u.takeUp_timer.trans htimer, u.takeUp_sched.trans hsched,
        u.takeUp_line_record.trans hrecord, hsuffix, hprefix⟩
    · exact congrArg Host.Outcome.next (State.cancelHead_inFlight hhead)
  · rw [State.cancel_absent (s := s.setCmd 0x51) htag habsent]
    refine ⟨fun sw hd hsw => ?_, fun sw rd hd hsw => ?_, fun hnot => congrArg Host.Outcome.next (if_neg hnot)⟩
    · have htagged : (s.setCmd 0x51).disc.tag = some tag := by simp [hd, Discovery.tag, hsw]
      refine congrArg Host.Outcome.next ((if_pos htagged).trans ?_)
      rw [State.cancelSweep_sweeping (s := s.setCmd 0x51) hd]
      rfl
    · have htagged : (s.setCmd 0x51).disc.tag = some tag := by simp [hd, Discovery.tag, hsw]
      refine congrArg Host.Outcome.next ((if_pos htagged).trans ?_)
      rw [State.cancelSweep_inRound (s := s.setCmd 0x51) hd]
      rfl

end Sys2Proof.Machine
end

section
/-! PROOFS. SUBMIT: its ten checks in order, the record it appends, and what becomes of a record that is the head (R84, R133, R134,
R136 to R138, R171, R180). -/

namespace Sys2Proof.Machine

open Sys2Proof

variable {s : State} {q : StagedRequest} {k : ReqKind}

/-! ### The kinds by their codes (R133, section 12.4) -/

theorem ReqKind.ofCode_code (k : ReqKind) : ReqKind.ofCode k.code = some k := by cases k <;> rfl

theorem ReqKind.code_lt (k : ReqKind) : k.code < 5 := by cases k <;> decide

theorem ReqKind.exists_code {n : Nat} (h : n < 5) : ∃ k : ReqKind, k.code = n := by
  interval_cases n
  exacts [⟨.read, rfl⟩, ⟨.write, rfl⟩, ⟨.probe, rfl⟩, ⟨.release, rfl⟩, ⟨.discover, rfl⟩]

theorem ReqKind.ofCode_none {n : Nat} (h : 5 ≤ n) : ReqKind.ofCode n = none := by
  obtain ⟨m, rfl⟩ := Nat.exists_eq_add_of_le' h
  rfl

theorem ReqKind.discover_iff (k : ReqKind) : k = .discover ↔ k.code = 4 := by cases k <;> decide

theorem ReqKind.write_iff (k : ReqKind) : k = .write ↔ k.code = 1 := by cases k <;> decide

/-- READ and WRITE, the kinds that carry an object and a length. -/
theorem ReqKind.data_iff (k : ReqKind) : k = .read ∨ k = .write ↔ k.code ≤ 1 := by cases k <;> decide

/-- The reservation of a staged request by the number of its kind (R15, R134). -/
def stagedReservation (kind length rw : Nat) : Nat :=
  match kind with
  | 0 | 1 => 124 + 10 * length + rw
  | 2 => 184 + rw
  | 3 => 134 + rw
  | _ => 388 + rw

theorem requestReservation_eq (k : ReqKind) (length rw : Nat) :
    requestReservation k length rw = stagedReservation k.code length rw := by
  cases k <;> rfl

/-! ### The checks (R134, R180) -/

/-- The first of the ten checks that fails, with its result (R134). -/
def State.submitRefusal (s : State) (q : StagedRequest) : Option (ResultCode × Nat) :=
  if 5 ≤ q.kind then some (.badArg, 1)
  else if 255 < q.tag then some (.badArg, 2)
  else if q.kind ≠ 4 ∧ ¬ (1 ≤ q.address ∧ q.address ≤ 60) then some (.badArg, 3)
  else if q.kind ≤ 1 ∧ 255 < q.object then some (.badArg, 4)
  else if q.kind ≤ 1 ∧ ¬ (1 ≤ q.length ∧ q.length ≤ 32) then some (.badArg, 5)
  else if q.kind ≠ 4 ∧ 3 < q.retries then some (.badArg, 6)
  else if q.tag ∈ s.tagsInUse then some (.dupTag, 0)
  else if 16 ≤ s.req.queue.length then some (.queueFull, 0)
  else if s.timer.inForce.openBits < stagedReservation q.kind q.length s.timer.inForce.respWait then some (.tooLong, 1)
  else if s.timer.pendingSet.openBits < stagedReservation q.kind q.length s.timer.pendingSet.respWait then
    some (.tooLong, 2)
  else none

/-- What the checks assure of a staged request that passes them all, as far as its append and take-up need it. -/
structure State.Submittable (s : State) (q : StagedRequest) : Prop where
  kind   : q.kind < 5
  object : q.kind ≤ 1 → q.object ≤ 255
  length : q.kind ≤ 1 → q.length ≤ 32
  fits   : stagedReservation q.kind q.length s.rw ≤ s.timer.inForce.openBits

/-- A chain of checks that none fails: its first check passes, and so does the rest. -/
theorem check_passed {p : Prop} [Decidable p] (refusal : ResultCode × Nat) (rest : Option (ResultCode × Nat)) :
    (if p then some refusal else rest) = none ↔ ¬ p ∧ rest = none := by
  by_cases hp : p <;> simp [hp]

theorem State.submittable_of_passed (h : s.submitRefusal q = none) : s.Submittable q := by
  unfold State.submitRefusal at h
  simp only [check_passed] at h
  obtain ⟨hkind, -, -, hobject, hlength, -, -, -, hfits, -, -⟩ := h
  refine ⟨not_le.1 hkind, fun hdata => ?_, fun hdata => ?_, not_lt.1 hfits⟩
  · exact not_lt.1 fun hbad => hobject ⟨hdata, hbad⟩
  · exact (not_not.1 fun hbad => hlength ⟨hdata, hbad⟩).2

theorem State.tag_taken_iff (s : State) (tag : Nat) :
    (s.req.queue.any (fun r => r.tag == tag) || s.disc.tag == some tag) = true ↔ tag ∈ s.tagsInUse := by
  simp [State.tagsInUse]

/-- The first check of a chain of checks: it refuses, or the next one decides. -/
theorem elim_check {p : Prop} [Decidable p] (refusal : ResultCode × Nat) (rest : Option (ResultCode × Nat)) (k : ReqKind) :
    (if p then some refusal else rest).elim (Except.ok k) Except.error =
      if p then Except.error refusal else rest.elim (Except.ok k) Except.error := by
  split <;> rfl

/-- A kind byte that names none is refused by the first check. -/
theorem State.submitChecks_noKind (h : 5 ≤ q.kind) : s.submitChecks q = .error (.badArg, 1) := by
  simp only [State.submitChecks, ReqKind.ofCode_none h]

/-- The checks of the model, by the kind, are those of `State.submitRefusal`, by its number. -/
theorem State.submitChecks_eq (s : State) (h : k.code = q.kind) :
    s.submitChecks q = (s.submitRefusal q).elim (.ok k) .error := by
  have hkind : ¬ 5 ≤ q.kind := by have := k.code_lt; omega
  unfold State.submitChecks State.submitRefusal
  simp only [← h, ReqKind.ofCode_code] at hkind ⊢
  simp only [elim_check, if_neg hkind, ne_eq, ReqKind.discover_iff, ReqKind.data_iff, no_station_iff, State.tag_taken_iff,
    requestReservation_eq, Option.elim_none]

theorem State.submit_refused {code : ResultCode} {val : Nat} (h : s.submitRefusal s.host.stagedRequest = some (code, val)) :
    s.submit = s.setResult code val := by
  have hchecks : s.submitChecks s.host.stagedRequest = .error (code, val) := by
    by_cases hkind : s.host.stagedRequest.kind < 5
    · obtain ⟨k, hk⟩ := ReqKind.exists_code hkind
      rw [State.submitChecks_eq s hk, h]
      rfl
    · rw [State.submitChecks_noKind (not_lt.1 hkind), ← Option.some.inj (h.symm.trans (if_pos (not_lt.1 hkind)))]
  simp only [State.submit, hchecks]

/-- The record appended by SUBMIT, with the result of the append (R134). -/
def State.appended (s : State) (r : Request) : State :=
  (s.setQueue (s.req.queue ++ [r])).setResult .done (s.req.queue.length + 1)

theorem State.appended_single {r : Request} (h : s.req.queue = []) :
    s.appended r = (s.setQueue [r]).setResult .done 1 := by
  simp only [State.appended, h, List.nil_append, List.length_nil, Nat.zero_add]

/-- A stage that passes the checks is appended, and examined where it became the head (R134, R136). -/
theorem State.submit_passed (h : s.submitRefusal s.host.stagedRequest = none) (hk : k.code = s.host.stagedRequest.kind) :
    s.submit = if s.req.queue = [] then (s.appended (s.host.stagedRequest.record k)).takeUp
      else s.appended (s.host.stagedRequest.record k) := by
  have hchecks : s.submitChecks s.host.stagedRequest = .ok k := by rw [State.submitChecks_eq s hk, h]; rfl
  simp only [State.submit, hchecks, List.isEmpty_iff, List.length_append, List.length_singleton]
  rfl

/-! ### The record appended (R133, R134) -/

theorem StagedRequest.record_tag (q : StagedRequest) (k : ReqKind) : (q.record k).tag = q.tag := by cases k <;> rfl

theorem StagedRequest.record_kind (q : StagedRequest) (k : ReqKind) : (q.record k).kind = k := by cases k <;> rfl

theorem StagedRequest.record_addressed (q : StagedRequest) (h : k.code ≠ 4) :
    (q.record k).address = q.address ∧ (q.record k).retries = q.retries := by
  cases k
  case discover => exact absurd rfl h
  all_goals exact ⟨rfl, rfl⟩

theorem StagedRequest.record_unaddressed (q : StagedRequest) (h : k.code = 4) :
    (q.record k).address = 0 ∧ (q.record k).retries = 0 := by
  obtain rfl := k.discover_iff.2 h
  exact ⟨rfl, rfl⟩

theorem StagedRequest.record_data (q : StagedRequest) (h : k.code ≤ 1) (hobject : q.object ≤ 255) :
    (q.record k).object.toNat = q.object ∧ (q.record k).length = q.length := by
  have hbyte : (BitVec.ofNat 8 q.object).toNat = q.object := by
    rw [BitVec.toNat_ofNat]; exact Nat.mod_eq_of_lt (by omega)
  rcases k.data_iff.2 h with rfl | rfl <;> exact ⟨hbyte, rfl⟩

theorem StagedRequest.record_noData (q : StagedRequest) (h : 2 ≤ k.code) :
    (q.record k).object = 0 ∧ (q.record k).length = 0 := by
  cases k
  case read | write => exact absurd h (by decide)
  all_goals exact ⟨rfl, rfl⟩

theorem StagedRequest.record_noPayload (q : StagedRequest) (h : k.code ≠ 1) : (q.record k).payload = [] := by
  cases k
  case write => exact absurd rfl h
  all_goals rfl

/-- The reservation of the record is that of the stage: where the record holds no length, none counts. -/
theorem StagedRequest.record_reservation (q : StagedRequest) (k : ReqKind) (rw : Nat) :
    requestReservation (q.record k).kind (q.record k).length rw = stagedReservation k.code q.length rw := by
  cases k <;> rfl

/-- A record that passed the checks fits the open window in force (R134, R137). -/
theorem State.tooLong_record (hk : k.code = q.kind) (hfits : stagedReservation q.kind q.length s.rw ≤ s.timer.inForce.openBits) :
    s.tooLong (q.record k) = false := by
  rw [State.tooLong, StagedRequest.record_reservation, hk]
  exact decide_eq_false (not_lt.2 hfits)

/-! ### The payload (R134, section 12.5) -/

theorem unpackBytes_length (ws : List Word) : (unpackBytes ws).length = 2 * ws.length := by
  induction ws with
  | nil => rfl
  | cons w ws ih => simp only [unpackBytes, List.length_cons, ih]; omega

/-- Each word holds two bytes, the lower-numbered in bits 15:8. -/
theorem unpackBytes_getD (ws : List Word) (k : Nat) : (unpackBytes ws).getD k 0 =
    if k % 2 = 0 then (ws.getD (k / 2) 0).hiByte else (ws.getD (k / 2) 0).loByte := by
  induction ws generalizing k with
  | nil => simp [unpackBytes, Word.hiByte, Word.loByte]
  | cons w ws ih =>
    match k with
    | 0 => rfl
    | 1 => rfl
    | k + 2 =>
      have hhalf : (k + 2) / 2 = k / 2 + 1 := by omega
      simp only [unpackBytes, List.getD_cons_succ, ih, hhalf, Nat.add_mod_right]

/-- The payload of a WRITE: the first bytes of the stage from its word 4 on. -/
theorem HostPort.stagedRequest_payload (h : HostPort) {n : Nat} (hn : n ≤ 32) :
    (h.stagedRequest.payload.take n).length = n ∧ ∀ k < n, (h.stagedRequest.payload.take n).getD k 0 =
      if k % 2 = 0 then (h.reqStage.get (4 + k / 2) 0).hiByte else (h.reqStage.get (4 + k / 2) 0).loByte := by
  have hlength : h.stagedRequest.payload.length = 32 := by
    show (unpackBytes (h.reqStage.cells.drop 4)).length = 32
    rw [unpackBytes_length, List.length_drop, h.reqStage.size]
  have hword : ∀ i, (h.reqStage.cells.drop 4).getD i 0 = h.reqStage.get (4 + i) 0 := fun i => by
    simp [Table.get, List.getD_eq_getElem?_getD]
  refine ⟨by rw [List.length_take, hlength]; omega, fun k hk => ?_⟩
  rw [List.getD_eq_getElem?_getD, List.getElem?_take_of_lt hk, ← List.getD_eq_getElem?_getD, ← hword]
  exact unpackBytes_getD _ k

/-! ### The head taken up (R84, R136, R137) -/

/-- A head alone in the queue whose target does not pass completes NO_STATION, its reservation turned into the record (R137). -/
theorem State.takeUp_noStation {r : Request} (hqueue : s.req.queue = [r]) (hmay : s.mayTakeUp = true)
    (htarget : r.targetPasses s.roster = false) : s.takeUp = { s with req := { s.req with
      queue := [], head := .untaken, completions := s.req.completions ++ [r.completion .noStation 0 {}] } } := by
  simp only [State.takeUp, hqueue, List.length_cons, List.length_nil, State.takeUpFuel, hmay, if_true, State.headCourse,
    State.setReservations_roster, htarget, Bool.not_false, State.completeHead, State.setReservations_req]
  rfl

/-- A DISCOVER alone in the queue starts a sweep at an IDLE unit (R84, R137). -/
theorem State.takeUp_sweep {r : Request} (hqueue : s.req.queue = [r]) (hmay : s.mayTakeUp = true)
    (hkind : r.kind = .discover) (hd : s.disc = .idle) (hfits : roundReservation s.rw ≤ s.timer.inForce.openBits) :
    s.takeUp = { s with
      line := { s.line with roundClaim := true }
      disc := .sweeping { tag := r.tag }
      req := { s.req with queue := [], reservations := s.req.reservations + 1 } } := by
  have htarget : r.targetPasses s.roster = true := by simp only [Request.targetPasses, hkind]
  have hlong : (s.setReservations (s.req.reservations + 1)).tooLong r = false := by
    simp only [State.tooLong, hkind]
    exact decide_eq_false (not_lt.2 hfits)
  have hwindow : ((s.setReservations (s.req.reservations + 1)).setQueue []).windowCheck = true := decide_eq_true hfits
  simp only [State.takeUp, hqueue, List.length_cons, List.length_nil, State.takeUpFuel, hmay, if_true, State.headCourse,
    State.setReservations_roster, State.setReservations_disc, htarget, hlong, hkind, hd, Discovery.active, State.acceptSweep,
    State.placeRound, hwindow, Bool.not_true, if_false, Bool.false_eq_true]
  rfl

/-! ### The record appended as the head (R136) -/

/-- A record appended outside RUNNING or with no completion slot left waits (R136). -/
theorem State.appended_waits (h : s.run.state ≠ .running ∨ 16 ≤ s.req.completions.length + s.req.reservations) (r : Request) :
    (s.appended r).takeUp = s.appended r := by
  refine State.takeUp_not _ ?_
  rcases h with h | h
  · simp [State.mayTakeUp, State.appended, h]
  · simp [State.mayTakeUp, State.appended, Nat.not_lt.2 h]

theorem State.appended_mayTakeUp (hrun : s.run.state = .running) (hhead : s.req.head = .untaken)
    (hroom : s.req.completions.length + s.req.reservations < 16) (r : Request) :
    ((s.setQueue [r]).setResult .done 1).mayTakeUp = true := by
  simp [State.mayTakeUp, hrun, hhead, hroom]

section
variable {r : Request} (hqueue : s.req.queue = []) (hhead : s.req.head = .untaken) (hrun : s.run.state = .running)
  (hroom : s.req.completions.length + s.req.reservations < 16)
include hqueue hhead hrun hroom

theorem State.appended_claims (hkind : r.kind ≠ .discover) (htarget : r.targetPasses s.roster = true)
    (hlong : s.tooLong r = false) : (s.appended r).takeUp = ({ s with
      line := { s.line with reqClaim := some (r.claim 1 s.roster) }
      req := { s.req with
        queue := s.req.queue ++ [r], head := .claimed, reservations := s.req.reservations + 1 } } : State).setResult
      .done 1 := by
  rw [State.appended_single hqueue,
    State.takeUp_claim _ rfl (State.appended_mayTakeUp hrun hhead hroom r) hkind htarget hlong, hqueue]
  rfl

theorem State.appended_noStation (htarget : r.targetPasses s.roster = false) : (s.appended r).takeUp = ({ s with
    req := { s.req with completions := s.req.completions ++ [r.completion .noStation 0 {}] } } : State).setResult
      .done 1 := by
  rw [State.appended_single hqueue,
    State.takeUp_noStation rfl (State.appended_mayTakeUp hrun hhead hroom r) htarget]
  simp only [hqueue, hhead]
  rfl

theorem State.appended_sweeps (hkind : r.kind = .discover) (hd : s.disc = .idle)
    (hfits : roundReservation s.rw ≤ s.timer.inForce.openBits) : (s.appended r).takeUp = ({ s with
      line := { s.line with roundClaim := true }
      disc := .sweeping { tag := r.tag }
      req := { s.req with reservations := s.req.reservations + 1 } } : State).setResult .done 1 := by
  rw [State.appended_single hqueue,
    State.takeUp_sweep rfl (State.appended_mayTakeUp hrun hhead hroom r) hkind hd hfits]
  simp only [hqueue]
  rfl
end

/-! ### SUBMIT -/

theorem State.exec_submit (h : s.accepts) : exec .submit s = .next (s.setCmd 0x50).submit :=
  congrArg Host.Outcome.next (State.command_accepted h _ _)

/-- Settles O55: the checks are those of `State.submitRefusal`, and the record appended is taken up as the head by its kind and
target. -/
theorem submitAppends : Obligations.SubmitAppends := by
  intro s hs stage tag kind retries address length object reserved refusal
  have hchain : refusal = (s.setCmd 0x50).submitRefusal (s.setCmd 0x50).host.stagedRequest := rfl
  rw [State.exec_submit hs, hchain]
  refine ⟨fun code val h => congrArg Host.Outcome.next (State.submit_refused h), fun h => ?_⟩
  obtain ⟨hkind, hobject, hlength, hfits⟩ := State.submittable_of_passed h
  obtain ⟨k, hk⟩ := ReqKind.exists_code hkind
  have hsubmit : (s.setCmd 0x50).submit =
      if s.req.queue = [] then ((s.setCmd 0x50).appended (s.host.stagedRequest.record k)).takeUp
      else (s.setCmd 0x50).appended (s.host.stagedRequest.record k) := State.submit_passed h hk
  rw [hsubmit]
  refine ⟨s.host.stagedRequest.record k, StagedRequest.record_tag _ k, (congrArg _ (StagedRequest.record_kind _ k)).trans hk,
    fun h => StagedRequest.record_addressed _ (hk.trans_ne h), fun h => StagedRequest.record_unaddressed _ (hk.trans h),
    fun h => StagedRequest.record_data _ (hk.trans_le h) (hobject h),
    fun h => StagedRequest.record_noData _ (h.trans_eq hk.symm),
    fun h => StagedRequest.record_noPayload _ (hk.trans_ne h), fun h => ?_, fun hwait => ?_,
    fun hqueue hhead hrun hroom hne htarget => ?_, fun hqueue hhead hrun hroom _ htarget => ?_,
    fun hqueue hhead hrun hroom hdiscover hd => ?_⟩
  · obtain rfl := k.write_iff.2 (hk.trans h)
    exact s.host.stagedRequest_payload (hlength h.le)
  · by_cases hempty : s.req.queue = []
    · rw [if_pos hempty, State.appended_waits (s := s.setCmd 0x50) (hwait.resolve_left (not_not.2 hempty))]
      rfl
    · rw [if_neg hempty]
      rfl
  · have hclaimable : (s.host.stagedRequest.record k).kind ≠ .discover := by
      rw [StagedRequest.record_kind, ne_eq, ReqKind.discover_iff]
      exact hk.trans_ne hne
    rw [if_pos hqueue, State.appended_claims (s := s.setCmd 0x50) hqueue hhead hrun hroom hclaimable htarget
      (State.tooLong_record hk hfits)]
    rfl
  · rw [if_pos hqueue, State.appended_noStation (s := s.setCmd 0x50) hqueue hhead hrun hroom htarget]
    rfl
  · obtain rfl := k.discover_iff.2 (hk.trans hdiscover)
    rw [← hk] at hfits
    rw [if_pos hqueue, State.appended_sweeps (s := s.setCmd 0x50) hqueue hhead hrun hroom rfl hd hfits]
    rfl

end Sys2Proof.Machine
end

section
/-! PROOFS. A schedule entry at a cycle start: its due points, and the due-mark table (R110 to R112). -/

namespace Sys2Proof.Machine

open Sys2Proof

variable {e : SchedEntry} {t : TimingSet}

/-! ### Counting down (R111) -/

/-- The countdown after a cycle start. -/
def SchedEntry.nextCount (e : SchedEntry) : Nat := if e.countdown = 0 then e.period.toNat - 1 else e.countdown - 1

theorem SchedEntry.countDown_fst (e : SchedEntry) : e.countDown.1 = { e with countdown := e.nextCount } := by
  unfold SchedEntry.countDown SchedEntry.nextCount
  split <;> rfl

theorem SchedEntry.countDown_snd_iff (e : SchedEntry) : e.countDown.2 = true ↔ e.countdown = 0 := by
  unfold SchedEntry.countDown
  split
  · next hzero => simp [hzero]
  · next hpos => simp [hpos]

theorem SchedEntry.countDown_snd_zero (h : e.countdown = 0) : e.countDown.2 = true := e.countDown_snd_iff.2 h

theorem SchedEntry.countDown_snd_pos (h : e.countdown ≠ 0) : e.countDown.2 = false :=
  Bool.eq_false_iff.2 fun hdue => h (e.countDown_snd_iff.1 hdue)

theorem SchedEntry.nextCount_lt (h : e.countdown < e.period.toNat) : e.nextCount < e.period.toNat := by
  unfold SchedEntry.nextCount
  split <;> omega

/-! ### The mark (R112) -/

/-- The mark touches the status and two of the counts. -/
theorem SchedEntry.mark_frame (e : SchedEntry) (duePoint issuable : Bool) : e.mark duePoint issuable = { e with
    status := (e.mark duePoint issuable).status
    late := (e.mark duePoint issuable).late
    skipped := (e.mark duePoint issuable).skipped } := by
  unfold SchedEntry.mark
  split <;> rfl

/-- A mark neither enables nor disables. -/
theorem SchedEntry.mark_enabled (e : SchedEntry) (duePoint issuable : Bool) :
    (e.mark duePoint issuable).enabled = e.enabled := by
  unfold SchedEntry.mark
  split <;> simp_all [SchedEntry.enabled]

/-! ### One entry at a cycle start (R110) -/

theorem SchedEntry.atCycleStart_starved (henabled : e.enabled = true) (h : t.schedBits < e.reservation t.respWait)
    (issuable : Bool) : e.atCycleStart t issuable = { e with status := .starved } := by
  simp [SchedEntry.atCycleStart, SchedEntry.starves, henabled, h]

/-- An enabled entry that fits counts down and is marked. -/
theorem SchedEntry.atCycleStart_fits (henabled : e.enabled = true) (h : e.reservation t.respWait ≤ t.schedBits)
    (issuable : Bool) :
    e.atCycleStart t issuable = { e with countdown := e.nextCount }.mark e.countDown.2 issuable := by
  simp [SchedEntry.atCycleStart, SchedEntry.starves, henabled, Nat.not_lt.2 h, SchedEntry.countDown_fst]

/-- Settles O18: STARVED, or the line of `SchedEntry.mark` for the status before, the due point and the target. -/
theorem dueMarkTable : Obligations.DueMarkTable := by
  intro e t issuable henabled hflight e' c
  refine ⟨fun h => SchedEntry.atCycleStart_starved henabled h issuable, fun h => ?_⟩
  have hmark : e' = { e with countdown := c }.mark e.countDown.2 issuable := SchedEntry.atCycleStart_fits henabled h issuable
  rw [hmark]
  refine ⟨fun hs hc => ?_, fun hs hc hi => ?_, fun hs hc hi => ?_, fun hs hc hi => ?_, fun hs hi => ?_, fun hs hc hi => ?_,
    fun hs hc => ?_, fun hs hc hi => ?_, fun hs hc hi => ?_⟩
  · simp [SchedEntry.mark, hs, SchedEntry.countDown_snd_pos hc]
  · simp [SchedEntry.mark, hs, SchedEntry.countDown_snd_zero hc, hi]
  · simp [SchedEntry.mark, hs, SchedEntry.countDown_snd_zero hc, hi]
  · simp [SchedEntry.mark, hs, SchedEntry.countDown_snd_pos hc, hi]
  · cases hd : e.countDown.2 <;> simp [SchedEntry.mark, hs, hi]
  · simp [SchedEntry.mark, hs, SchedEntry.countDown_snd_zero hc, hi]
  · simp [SchedEntry.mark, hs, SchedEntry.countDown_snd_pos hc]
  · simp [SchedEntry.mark, hs, SchedEntry.countDown_snd_zero hc, hi]
  · simp [SchedEntry.mark, hs, SchedEntry.countDown_snd_zero hc, hi]

/-! ### The due points (R111) -/

/-- What a cycle start leaves of an enabled entry that fits, but for its mark. -/
theorem SchedEntry.atCycleStart_counts (henabled : e.enabled = true) (h : e.reservation t.respWait ≤ t.schedBits)
    (issuable : Bool) :
    let e' := e.atCycleStart t issuable
    e'.countdown = e.nextCount ∧ e'.enabled = true ∧ e'.period = e.period ∧ e'.length = e.length := by
  intro e'
  have hfits : e' = _ := SchedEntry.atCycleStart_fits henabled h issuable
  rw [hfits]
  refine ⟨?_, (SchedEntry.mark_enabled _ _ _).trans henabled, ?_, ?_⟩ <;> rw [SchedEntry.mark_frame]

/-- One cycle start less to the next multiple. -/
theorem succ_mod_eq_iff {k p c : Nat} (h : c < p) : (k + 1) % p = c ↔ k % p = if c = 0 then p - 1 else c - 1 := by
  have hlt : k % p < p := Nat.mod_lt k (by omega)
  rw [← Nat.mod_add_mod]
  by_cases hwrap : k % p + 1 = p
  · rw [hwrap, Nat.mod_self]
    split <;> omega
  · rw [Nat.mod_eq_of_lt (by omega)]
    split <;> omega

/-- A run of cycle starts leads to a due point exactly where its length is the countdown, and every period from there on. -/
theorem SchedEntry.duePoint_after_iff (issuables : List Bool) (henabled : e.enabled = true)
    (hfits : e.reservation t.respWait ≤ t.schedBits) (hcount : e.countdown < e.period.toNat) :
    (issuables.foldl (fun e issuable => e.atCycleStart t issuable) e).countDown.2 = true ↔
      issuables.length % e.period.toNat = e.countdown := by
  induction issuables generalizing e with
  | nil => rw [List.foldl_nil, e.countDown_snd_iff, List.length_nil, Nat.zero_mod, eq_comm]
  | cons issuable issuables ih =>
    obtain ⟨hnext, henabled', hperiod, hlength⟩ := SchedEntry.atCycleStart_counts henabled hfits issuable
    have hfits' : (e.atCycleStart t issuable).reservation t.respWait ≤ t.schedBits := by
      rwa [SchedEntry.reservation, hlength]
    rw [List.foldl_cons, ih henabled' hfits' (by rw [hnext, hperiod]; exact SchedEntry.nextCount_lt hcount), hnext, hperiod,
      List.length_cons, succ_mod_eq_iff hcount, SchedEntry.nextCount]

/-- Settles O19: the countdown of one cycle start, and an induction over the cycle starts. -/
theorem countdownDuePoints : Obligations.CountdownDuePoints := fun e _ henabled hfits =>
  ⟨fun issuable => (SchedEntry.atCycleStart_counts henabled hfits issuable).1, e.countDown_snd_iff,
    fun issuables hcount => SchedEntry.duePoint_after_iff issuables henabled hfits hcount⟩

end Sys2Proof.Machine
end

section
/-! PROOFS. The entries of the schedule under every operation: what keeps an entry's configuration and countdown, and what a cycle
start makes of them (R104, R107, R110, R111, R116 to R120). -/

namespace Sys2Proof.Machine

open Sys2Proof

variable {s t u : State} {e e' e'' : SchedEntry}

/-! ### One entry -/

/-- The entry keeps its configuration and its countdown, is at no later attempt, and is not enabled where it was not. -/
structure SchedEntry.Follows (e e' : SchedEntry) : Prop where
  frame   : e' = { e with
              status := e'.status, attempt := e'.attempt, skipped := e'.skipped, failed := e'.failed
              lastOutcome := e'.lastOutcome, lastStatus := e'.lastStatus, lastCycle := e'.lastCycle
              disablePending := e'.disablePending }
  attempt : e'.attempt ≤ e.attempt
  enabled : e'.enabled = true → e.enabled = true

theorem SchedEntry.Follows.refl (e : SchedEntry) : e.Follows e := ⟨rfl, Nat.le_refl _, id⟩

theorem SchedEntry.Follows.trans (h : e.Follows e') (h' : e'.Follows e'') : e.Follows e'' where
  frame := by rw [h'.frame, h.frame]
  attempt := h'.attempt.trans h.attempt
  enabled := h.enabled ∘ h'.enabled

theorem SchedEntry.Lawful.follows {timing : TimingSet} (h : e.Lawful timing) (hf : e.Follows e') : e'.Lawful timing := by
  have hattempt : e'.attempt ≤ 1 + e.retries.toNat := hf.attempt.trans h.attempt
  rw [hf.frame]
  exact ⟨h.target, h.direction, h.length, h.period, h.phase, h.retries, h.policy, h.fits, h.countdown, hattempt⟩

theorem SchedEntry.follows_skip (h : e.status = .due) : e.Follows e.skip :=
  ⟨rfl, Nat.le_refl _, fun _ => e.enabled_iff.2 (.inr (.inl h))⟩

theorem SchedEntry.follows_noteOutcome (e : SchedEntry) (o : LineOutcome) (reply : Reply) (cycle : Word) :
    e.Follows (e.noteOutcome o reply cycle) := ⟨rfl, Nat.le_refl _, id⟩

theorem SchedEntry.follows_endIssue (h : e.status = .inFlight) (failed : Bool) : e.Follows (e.endIssue failed) :=
  ⟨rfl, Nat.zero_le _, fun _ => e.enabled_iff.2 (.inr (.inr (.inl h)))⟩

theorem SchedEntry.follows_unmark (e : SchedEntry) : e.Follows e.unmark := by
  unfold SchedEntry.unmark
  split
  case h_1 h => exact ⟨rfl, Nat.le_refl _, fun _ => e.enabled_iff.2 (.inr (.inl h))⟩
  case h_2 h => exact ⟨rfl, Nat.le_refl _, fun _ => e.enabled_iff.2 (.inr (.inr (.inr h)))⟩
  all_goals exact .refl e

theorem SchedEntry.follows_disabled (e : SchedEntry) : e.Follows { e with status := .disabled } :=
  ⟨rfl, Nat.le_refl _, nofun⟩

theorem SchedEntry.follows_disabledRetry (e : SchedEntry) (failed : Bool) :
    e.Follows { e.endIssue failed with status := .disabled } := ⟨rfl, Nat.zero_le _, nofun⟩

theorem SchedEntry.follows_disablePending (e : SchedEntry) : e.Follows { e with disablePending := true } :=
  ⟨rfl, Nat.le_refl _, id⟩

/-- An entry enabled after a cycle start was enabled before it. -/
theorem SchedEntry.enabled_of_atCycleStart {timing : TimingSet} {issuable : Bool}
    (h : (e.atCycleStart timing issuable).enabled = true) : e.enabled = true := by
  by_contra hnot
  rw [SchedEntry.atCycleStart, if_pos (by simpa using hnot)] at h
  exact hnot h

/-- An entry that a cycle start leaves enabled fits the scheduled window then in force, whatever was in force before (R110). -/
theorem SchedEntry.Lawful.atCycleStart {before timing : TimingSet} {issuable : Bool} (h : e.Lawful before)
    (henabled : (e.atCycleStart timing issuable).enabled = true) : (e.atCycleStart timing issuable).Lawful timing := by
  have hbefore := SchedEntry.enabled_of_atCycleStart henabled
  by_cases hfits : e.reservation timing.respWait ≤ timing.schedBits
  · rw [SchedEntry.atCycleStart_fits hbefore hfits, SchedEntry.mark_frame]
    exact ⟨h.target, h.direction, h.length, h.period, h.phase, h.retries, h.policy, hfits, SchedEntry.nextCount_lt h.countdown,
      h.attempt⟩
  · rw [SchedEntry.atCycleStart_starved hbefore (Nat.not_le.1 hfits)] at henabled
    cases henabled

/-- A configuration that passes the ten checks of SCHED_ENABLE is lawful with its countdown at the phase (R107). -/
theorem SchedEntry.lawful_of_enableRefusal {inForce pendingSet : TimingSet} (h : e.enableRefusal inForce pendingSet = none) :
    SchedEntry.Lawful { e with status := .waiting, countdown := e.phase.toNat, attempt := 0, disablePending := false }
      inForce := by
  simp only [SchedEntry.enableRefusal, ite_eq_iff, reduceCtorEq, and_false, false_or, not_not, not_lt, Bool.not_eq_false,
    Bool.or_eq_true] at h
  obtain ⟨-, htarget, hdirection, hlength, hperiod, hphase, hretries, hpolicy, hfits, -⟩ := h
  have hphase' := Nat.not_le.1 hphase
  exact ⟨htarget, hdirection, hlength, hperiod, hphase', hretries, hpolicy, hfits, hphase', Nat.zero_le _⟩

/-! ### The schedule table -/

/-- Every enabled entry is lawful in the timing set in force. -/
def State.EntriesLawful (s : State) : Prop := ∀ n, (s.entry n).enabled = true → (s.entry n).Lawful s.timer.inForce

/-- The timing set in force stays, and every entry follows. -/
structure State.EntriesFollow (s t : State) : Prop where
  timing  : t.timer.inForce = s.timer.inForce
  entries : ∀ n, (s.entry n).Follows (t.entry n)

theorem State.EntriesFollow.of_eq (htiming : t.timer.inForce = s.timer.inForce) (hentries : t.sched.entries = s.sched.entries) :
    s.EntriesFollow t :=
  ⟨htiming, fun n => by rw [State.entry, State.entry, hentries]; exact .refl _⟩

theorem State.EntriesFollow.refl (s : State) : s.EntriesFollow s := .of_eq rfl rfl

theorem State.EntriesFollow.trans (h : s.EntriesFollow t) (h' : t.EntriesFollow u) : s.EntriesFollow u :=
  ⟨h'.timing.trans h.timing, fun n => (h.entries n).trans (h'.entries n)⟩

theorem State.EntriesLawful.follow (h : s.EntriesLawful) (hf : s.EntriesFollow t) : t.EntriesLawful := fun n henabled => by
  rw [hf.timing]
  exact (h n ((hf.entries n).enabled henabled)).follows (hf.entries n)

theorem State.EngineFrame.entriesFollow (h : s.EngineFrame t) : s.EntriesFollow t := .of_eq (by rw [h]) (by rw [h])

/-- Replacing an entry shows at its own number, or nowhere where the table has no such number. -/
theorem State.entry_setEntry (s : State) (n k : Nat) (e : SchedEntry) :
    k = n ∧ (s.setEntry n e).entry k = e ∨ (s.setEntry n e).entry k = s.entry k := by
  by_cases hk : k = n
  · subst hk
    by_cases hlt : k < 32
    · exact .inl ⟨rfl, s.entry_setEntry_self hlt e⟩
    · exact .inr (by rw [State.entry_out _ (Nat.not_lt.1 hlt), State.entry_out _ (Nat.not_lt.1 hlt)])
  · exact .inr (s.entry_setEntry_ne hk e)

theorem State.setEntry_entriesFollow {n : Nat} (h : (s.entry n).Follows e) : s.EntriesFollow (s.setEntry n e) := by
  refine ⟨rfl, fun k => ?_⟩
  rcases s.entry_setEntry n k e with ⟨rfl, hk⟩ | hk
  · rwa [hk]
  · rw [hk]; exact .refl _

theorem State.updateEntries_entriesFollow {f : Nat → SchedEntry → SchedEntry}
    (h : ∀ n, (s.entry n).Follows (f n (s.entry n))) : s.EntriesFollow (s.updateEntries f) := by
  refine ⟨rfl, fun n => ?_⟩
  by_cases hn : n < 32
  · rw [s.entry_updateEntries hn]; exact h n
  · rw [State.entry_out _ (Nat.not_lt.1 hn), State.entry_out _ (Nat.not_lt.1 hn)]; exact .refl _

/-! ### Operations that the entries follow -/

variable (s)

/-- The choice may skip DUE entries (R114). -/
theorem State.choose_entriesFollow : s.EntriesFollow s.choose := by
  refine ⟨by rw [State.choose_timer], fun n => ?_⟩
  rcases s.choose_entry n with h | ⟨hdue, -, h⟩
  · rw [h]; exact .refl _
  · rw [h]; exact SchedEntry.follows_skip hdue

theorem State.mailboxOutcome_timer (n : Nat) (o : LineOutcome) (reply : Reply) :
    (s.mailboxOutcome n o reply).timer = s.timer := (s.mailboxOutcome_acts n o reply).timer

/-- The outcome noted in the entry, and taken by its mailbox (R116, R123, R130). -/
abbrev State.outcomeNoted (s : State) (n : Nat) (o : LineOutcome) (reply : Reply) : State :=
  (s.setEntry n ((s.entry n).noteOutcome o reply s.timer.cycle)).mailboxOutcome n o reply

theorem State.outcomeNoted_entriesFollow (n : Nat) (o : LineOutcome) (reply : Reply) :
    s.EntriesFollow (s.outcomeNoted n o reply) :=
  (State.setEntry_entriesFollow (SchedEntry.follows_noteOutcome _ o reply _)).trans
    (.of_eq (by rw [State.mailboxOutcome_timer]) (State.mailboxOutcome_entries _ _ _ _))

theorem State.schedOutcome_entriesFollow (n : Nat) (o : LineOutcome) (reply : Reply) :
    s.EntriesFollow (s.schedOutcome n o reply) := by
  have hnoted := s.outcomeNoted_entriesFollow n o reply
  unfold State.schedOutcome
  dsimp only
  split
  · exact hnoted
  next hflight =>
  split
  · exact hnoted.trans (.of_eq rfl rfl)
  · exact (hnoted.trans (State.setEntry_entriesFollow (SchedEntry.follows_endIssue (not_not.1 hflight) _))).trans
      (State.choose_entriesFollow _)

theorem State.deliver_entriesFollow (r : Record) (o : LineOutcome) : s.EntriesFollow (s.deliver r o) := by
  have hcut : ∀ roster, s.EntriesFollow ((s.setRecord none).setRoster roster) := fun _ => .of_eq rfl rfl
  unfold State.deliver
  dsimp only
  split
  · exact (hcut _).trans (State.schedOutcome_entriesFollow _ _ _ _)
  · exact (hcut _).trans (State.reqOutcome_engineFrame _ _ _ _).entriesFollow
  · exact hcut _
  · exact hcut _

theorem State.discLineError_entriesFollow : s.EntriesFollow s.discLineError := by
  rw [State.discLineError_frame]; exact .of_eq rfl rfl

theorem State.discAborted_entriesFollow : s.EntriesFollow s.discAborted := by
  rw [State.discAborted_frame]; exact .of_eq rfl rfl

/-- The cut hands one outcome on (R80). -/
theorem State.cutLine_entriesFollow : s.EntriesFollow s.cutLine := by
  have hnone : s.EntriesFollow (s.setRecord none) := .of_eq rfl rfl
  unfold State.cutLine
  split
  · exact .refl s
  split
  · exact hnone
  · exact s.deliver_entriesFollow _ _
  · refine .trans (.trans ?_ (State.discAborted_entriesFollow _)) (State.discRoundEnd_engineFrame _).entriesFollow
    split
    · exact hnone.trans (State.discLineError_entriesFollow _)
    · exact hnone

/-- Waiting retries end (R118, R119). -/
theorem State.schedWithdraw_entriesFollow : s.EntriesFollow s.schedWithdraw := by
  refine .trans (t := s.setSchedClaim none) (.of_eq rfl rfl) (State.updateEntries_entriesFollow fun n => ?_)
  split
  · next h => exact SchedEntry.follows_endIssue h.1 true
  · exact .refl _

/-- Entries return to WAITING (R120). -/
theorem State.schedLeave_entriesFollow : s.EntriesFollow s.schedLeave :=
  s.schedWithdraw_entriesFollow.trans (State.updateEntries_entriesFollow fun _ => SchedEntry.follows_unmark _)

/-- In OFF, the owners' parts of HALT (R157). -/
theorem State.haltOwners_entriesFollow : s.EntriesFollow s.haltOwners := by
  obtain ⟨n, hcut⟩ := s.haltOwners_cut
  obtain ⟨x, hbefore, hafter⟩ := hcut.between
  have hoff : s.EntriesFollow { s.enterOff with freeIndex := n } := .of_eq rfl rfl
  exact ((hoff.trans hbefore.entriesFollow).trans x.cutLine_entriesFollow).trans hafter.entriesFollow

end Sys2Proof.Machine
end

section
/-! PROOFS. Every step keeps the laws of the schedule (R104, R107, R110, R113, R117 to R120). -/

namespace Sys2Proof.Machine

open Sys2Proof

variable {s t u : State}

/-! ### The parts of the state that the laws speak of -/

/-- The schedule entries, the Scheduler's claim, whether the Scheduler chooses, and the timing set in force. -/
structure Agenda where
  entries    : Table SchedEntry 32
  claim      : Option Claim
  scheduling : Bool
  timing     : TimingSet

def State.agenda (s : State) : Agenda := ⟨s.sched.entries, s.line.schedClaim, s.scheduling, s.timer.inForce⟩

/-- The laws hold wherever the agenda is that of a lawful state. -/
theorem State.SchedLawful.of_agenda (h : s.SchedLawful) (heq : t.agenda = s.agenda) : t.SchedLawful := by
  simp only [State.agenda, Agenda.mk.injEq] at heq
  obtain ⟨hentries, hclaim, hscheduling, htiming⟩ := heq
  have hentry : ∀ n, t.entry n = s.entry n := fun n => by rw [State.entry, State.entry, hentries]
  constructor
  · intro n; rw [hentry, htiming]; exact h.enabled n
  · rw [hclaim, hscheduling]; exact h.placed
  · intro c n; rw [hclaim, hentry]; exact h.claim c n

/-! ### Operations that leave the agenda alone -/

theorem State.EngineFrame.agenda_eq (h : s.EngineFrame t) : t.agenda = s.agenda := by rw [h]; rfl

variable (s)

@[simp] theorem State.setHost_agenda (host : HostPort) : (s.setHost host).agenda = s.agenda := rfl
@[simp] theorem State.setPending_agenda (q : List Instr) : (s.setPending q).agenda = s.agenda := rfl
@[simp] theorem State.setBoundary_agenda (b : Bool) : (s.setBoundary b).agenda = s.agenda := rfl
@[simp] theorem State.setRecord_agenda (r : Option Record) : (s.setRecord r).agenda = s.agenda := rfl
@[simp] theorem State.nextFree_agenda : s.nextFree.agenda = s.agenda := rfl
@[simp] theorem State.takeUp_agenda : s.takeUp.agenda = s.agenda := s.takeUp_engineFrame.agenda_eq

@[simp] theorem State.ownersLeave_agenda (o : LineOutcome) : (s.ownersLeave o).agenda = s.agenda :=
  let ⟨_, hframe⟩ := s.ownersLeave_engineFrame o
  hframe.agenda_eq

@[simp] theorem State.mailboxOutcome_agenda (n : Nat) (o : LineOutcome) (reply : Reply) :
    (s.mailboxOutcome n o reply).agenda = s.agenda := by
  unfold State.mailboxOutcome
  dsimp only
  repeat' split
  all_goals rfl

/-! #### The Discovery Unit -/

@[simp] theorem State.discGranted_agenda : s.discGranted.agenda = s.agenda := by
  unfold State.discGranted
  split <;> rfl

@[simp] theorem State.discPhase_agenda (p : RoundPhase) : (s.discPhase p).agenda = s.agenda := by
  unfold State.discPhase
  split <;> rfl

@[simp] theorem State.discDecide_agenda (ident : Ident) (check : Byte) : (s.discDecide ident check).2.agenda = s.agenda := by
  unfold State.discDecide
  dsimp only
  repeat' split
  all_goals rfl

@[simp] theorem State.discAssignOutcome_agenda (o : LineOutcome) : (s.discAssignOutcome o).agenda = s.agenda := by
  unfold State.discAssignOutcome
  dsimp only
  repeat' split
  all_goals rfl

@[simp] theorem State.discLineError_agenda : s.discLineError.agenda = s.agenda := by
  rw [State.discLineError_frame]; rfl

@[simp] theorem State.cancelSweep_agenda : s.cancelSweep.agenda = s.agenda := by
  unfold State.cancelSweep
  split <;> rfl

@[simp] theorem State.slotPhase_agenda : s.slotPhase.agenda = s.agenda := by
  rw [State.slotPhase_frame]; rfl

@[simp] theorem State.roundClaimSeen_agenda : s.roundClaimSeen.agenda = s.agenda := by
  rcases s.roundClaimSeen_cases with h | ⟨-, -, -, -, h | h⟩ <;> rw [h] <;> rfl

/-! #### The Request Engine -/

@[simp] theorem State.submit_agenda : s.submit.agenda = s.agenda := by
  unfold State.submit
  dsimp only
  split
  · rfl
  · split
    · exact State.takeUp_agenda _
    · rfl

@[simp] theorem State.cancelHead_agenda : s.cancelHead.agenda = s.agenda := by
  unfold State.cancelHead
  split
  · exact State.takeUp_agenda _
  · exact State.takeUp_agenda _
  · rfl
  · rfl

@[simp] theorem State.cancel_agenda : s.cancel.agenda = s.agenda := by
  unfold State.cancel
  dsimp only
  split
  · rfl
  split
  · exact s.cancelHead_agenda
  · rfl
  · split
    · exact s.cancelSweep_agenda
    · rfl

@[simp] theorem State.popCompletion_agenda : s.popCompletion.agenda = s.agenda := by
  unfold State.popCompletion
  split
  · rfl
  · exact State.takeUp_agenda _

/-! #### The other owners -/

@[simp] theorem State.timingLoad_agenda : s.timingLoad.agenda = s.agenda := by
  unfold State.timingLoad
  dsimp only
  split <;> rfl

@[simp] theorem State.threshLoad_agenda : s.threshLoad.agenda = s.agenda := by
  unfold State.threshLoad
  repeat' split
  all_goals rfl

@[simp] theorem State.pin_agenda : s.pin.agenda = s.agenda := by
  unfold State.pin
  dsimp only
  repeat' split
  all_goals rfl

@[simp] theorem State.unpin_agenda : s.unpin.agenda = s.agenda := by
  unfold State.unpin
  dsimp only
  repeat' split
  all_goals rfl

@[simp] theorem State.clearConflict_agenda : s.clearConflict.agenda = s.agenda := by
  unfold State.clearConflict
  dsimp only
  repeat' split
  all_goals rfl

@[simp] theorem State.popChange_agenda : s.popChange.agenda = s.agenda := by
  unfold State.popChange
  split <;> rfl

@[simp] theorem State.stationSnap_agenda : s.stationSnap.agenda = s.agenda := by
  unfold State.stationSnap
  dsimp only
  split <;> rfl

@[simp] theorem State.schedSnap_agenda : s.schedSnap.agenda = s.agenda := by
  unfold State.schedSnap
  dsimp only
  split <;> rfl

@[simp] theorem State.take_agenda : s.take.agenda = s.agenda := by
  unfold State.take
  dsimp only
  repeat' split
  all_goals rfl

@[simp] theorem State.put_agenda : s.put.agenda = s.agenda := by
  unfold State.put
  dsimp only
  repeat' split
  all_goals rfl

/-! #### Run Control: the run states other than RUNNING -/

theorem State.agenda_of_not_running {x : RunControl} (h : s.run.state ≠ .running) (hx : x.state ≠ .running) :
    State.agenda { s with run := x } = s.agenda := by
  have hafter : State.scheduling { s with run := x } = s.scheduling :=
    (State.scheduling_false hx).trans (State.scheduling_false h).symm
  rw [State.agenda, hafter]
  rfl

@[simp] theorem State.initEnd_agenda : s.initEnd.agenda = s.agenda := by
  unfold State.initEnd
  split
  · next h => exact s.agenda_of_not_running (x := { s.run with state := .off }) (by simp [h.1]) nofun
  · rfl

@[simp] theorem State.resume_agenda : s.resume.agenda = s.agenda := by
  unfold State.resume
  split
  · next h => exact s.agenda_of_not_running (by simp [h]) nofun
  · rfl

@[simp] theorem State.lineCheckStuck_agenda : s.lineCheckStuck.agenda = s.agenda := by
  unfold State.lineCheckStuck
  split
  · next h => exact s.agenda_of_not_running (by simp [h.1]) nofun
  · rfl

variable {s}

/-! ### The claim -/

theorem SchedEntry.claim_owner (e : SchedEntry) (n attempt : Nat) : (e.claim n attempt).owner = .scheduler n := by
  rw [SchedEntry.claim_eq]

theorem SchedEntry.claim_attempt (e : SchedEntry) (n attempt : Nat) : (e.claim n attempt).attempt = attempt := by
  rw [SchedEntry.claim_eq]

/-- With no claim held the laws are those of the entries. -/
theorem State.EntriesLawful.unclaimed (h : s.EntriesLawful) (hnone : s.line.schedClaim = none) : s.SchedLawful :=
  ⟨h, fun hsome => (by rw [hnone] at hsome; cases hsome), fun c n hc => (by rw [hnone] at hc; cases hc)⟩

theorem State.SchedLawful.unclaimed (h : s.SchedLawful) (hnot : s.scheduling = false) : s.line.schedClaim = none :=
  Option.not_isSome_iff_eq_none.1 fun hsome => Bool.noConfusion (hnot.symm.trans (h.placed hsome))

/-- Only an enabled entry has a claim. -/
theorem State.SchedLawful.claimed_enabled (h : s.SchedLawful) {c : Claim} {n : Nat} (hc : s.line.schedClaim = some c)
    (howner : c.owner = .scheduler n) : (s.entry n).enabled = true :=
  (s.entry n).enabled_iff.2 (by rcases (h.claim c n hc howner).1 with hs | hs <;> simp [hs])

/-- A claim of the Scheduler is placed by its choice, for the first attempt of a DUE entry (R113). -/
theorem State.EntriesLawful.choose (h : s.EntriesLawful) (hnone : s.scheduling = false → s.line.schedClaim = none) :
    s.choose.SchedLawful := by
  have hentries := h.follow s.choose_entriesFollow
  rcases s.choose_claim with ⟨hsame, hnot⟩ | ⟨hscheduling, hclaim | ⟨n, -, hclaim, hentry, hcandidate⟩⟩
  · exact hentries.unclaimed (hsame.trans (hnone hnot))
  · exact hentries.unclaimed hclaim
  · refine ⟨hentries, fun _ => ?_, fun c m hc howner => ?_⟩
    · rwa [State.scheduling, State.choose_run, State.choose_timer]
    · rw [hclaim] at hc
      cases hc
      rw [SchedEntry.claim_owner] at howner
      cases howner
      rw [hentry, SchedEntry.claim_attempt]
      exact ⟨.inl ((s.candidate_iff n).1 hcandidate).1, Nat.le_add_right _ _⟩

theorem State.SchedLawful.choose (h : s.SchedLawful) : s.choose.SchedLawful := State.EntriesLawful.choose h.enabled h.unclaimed

theorem State.SchedLawful.chooseAtBoundary (h : s.SchedLawful) : s.chooseAtBoundary.SchedLawful := by
  unfold State.chooseAtBoundary
  split
  · exact h.choose
  · exact h

theorem State.SchedLawful.boundaryChoice (h : s.SchedLawful) : s.boundaryChoice.SchedLawful := by
  have hfree : s.nextFree.SchedLawful := h.of_agenda s.nextFree_agenda
  unfold State.boundaryChoice
  split
  · split
    · exact hfree.choose
    · exact hfree
  · exact h.chooseAtBoundary

/-! ### One entry replaced -/

/-- An entry may be replaced by a lawful one that bears the claim that names it. -/
theorem State.SchedLawful.setEntry (h : s.SchedLawful) {n : Nat} {e : SchedEntry}
    (he : e.enabled = true → e.Lawful s.timer.inForce)
    (hclaim : ∀ c, s.line.schedClaim = some c → c.owner = .scheduler n →
      (e.status = .due ∨ e.status = .inFlight) ∧ c.attempt ≤ 1 + e.retries.toNat) : (s.setEntry n e).SchedLawful := by
  refine ⟨fun k henabled => ?_, h.placed, fun c k hc howner => ?_⟩
  · rcases s.entry_setEntry n k e with ⟨-, hk⟩ | hk <;> rw [hk] at henabled ⊢
    · exact he henabled
    · exact h.enabled k henabled
  · rcases s.entry_setEntry n k e with ⟨rfl, hk⟩ | hk <;> rw [hk]
    · exact hclaim c hc howner
    · exact h.claim c k hc howner

/-- An entry that no claim names may be replaced by any lawful one. -/
theorem State.SchedLawful.setUnclaimed (h : s.SchedLawful) {n : Nat} {e : SchedEntry}
    (hnot : s.claimNames n = false) (he : e.enabled = true → e.Lawful s.timer.inForce) : (s.setEntry n e).SchedLawful :=
  h.setEntry he fun c hc howner => (by simp [State.claimNames, hc, howner] at hnot)

theorem State.SchedLawful.claimNames_false (h : s.SchedLawful) {n : Nat} (hdue : (s.entry n).status ≠ .due)
    (hflight : (s.entry n).status ≠ .inFlight) : s.claimNames n = false := by
  unfold State.claimNames
  split
  · next c hc => exact beq_eq_false_iff_ne.2 fun howner => (h.claim c n hc howner).1.elim hdue hflight
  · rfl

theorem SchedEntry.status_of_disabled {e : SchedEntry} (h : ¬ e.enabled = true) :
    e.status ≠ .due ∧ e.status ≠ .inFlight := by
  rw [SchedEntry.enabled_iff] at h
  tauto

/-- An entry that follows the old one in the same status bears the claim on. -/
theorem State.SchedLawful.setFollower (h : s.SchedLawful) {n : Nat} {e : SchedEntry} (hf : (s.entry n).Follows e)
    (hstatus : e.status = (s.entry n).status) : (s.setEntry n e).SchedLawful := by
  refine h.setEntry (fun henabled => (h.enabled n (hf.enabled henabled)).follows hf) fun c hc howner => ?_
  rw [hstatus, hf.frame]
  exact h.claim c n hc howner

/-! ### Outcomes (R116, R117) -/

theorem State.SchedLawful.schedOutcome (h : s.SchedLawful) (n : Nat) (o : LineOutcome) (reply : Reply) :
    (s.schedOutcome n o reply).SchedLawful := by
  have hnoted : (s.outcomeNoted n o reply).SchedLawful :=
    (h.setFollower (SchedEntry.follows_noteOutcome _ o reply _) rfl).of_agenda (State.mailboxOutcome_agenda _ _ _ _)
  unfold State.schedOutcome
  dsimp only
  split
  · exact hnoted
  next hstatus =>
  have hflight := not_not.1 hstatus
  split
  · next hretry =>
    simp only [State.schedRetry, Bool.and_eq_true, decide_eq_true_eq] at hretry
    obtain ⟨-, ⟨⟨⟨hattempts, -⟩, hscheduling⟩, -⟩, -⟩ := hretry
    refine ⟨hnoted.enabled, fun _ => hscheduling, fun c m hc howner => ?_⟩
    cases hc
    rw [SchedEntry.claim_owner] at howner
    cases howner
    rw [SchedEntry.claim_attempt]
    exact ⟨.inr hflight, hattempts⟩
  · exact State.EntriesLawful.choose (State.EntriesLawful.follow hnoted.enabled
      (State.setEntry_entriesFollow (SchedEntry.follows_endIssue hflight _))) hnoted.unclaimed

theorem State.SchedLawful.deliver (h : s.SchedLawful) (r : Record) (o : LineOutcome) : (s.deliver r o).SchedLawful := by
  have hnone : ∀ roster, ((s.setRecord none).setRoster roster).SchedLawful := fun _ => h.of_agenda rfl
  unfold State.deliver
  dsimp only
  split
  · exact (hnone _).schedOutcome _ _ _
  · exact (hnone _).of_agenda (State.reqOutcome_engineFrame _ _ _ _).agenda_eq
  · exact hnone _
  · exact hnone _

/-! ### Leaving RUNNING and the scheduled window (R118 to R120) -/

theorem State.EntriesLawful.schedWithdraw (h : s.EntriesLawful) : s.schedWithdraw.SchedLawful :=
  (h.follow s.schedWithdraw_entriesFollow).unclaimed rfl

theorem State.EntriesLawful.schedLeave (h : s.EntriesLawful) : s.schedLeave.SchedLawful :=
  (h.follow s.schedLeave_entriesFollow).unclaimed rfl

theorem State.EntriesLawful.enterOff (h : s.EntriesLawful) : s.enterOff.EntriesLawful := h.follow (.of_eq rfl rfl)

theorem State.discFaultSeen_agenda (s : State) : s.discFaultSeen.agenda = s.agenda := s.discFaultSeen_engineFrame.agenda_eq

theorem State.EntriesLawful.enterFaulted (h : s.EntriesLawful) : s.enterFaulted.SchedLawful := by
  have hleft := State.EntriesLawful.schedLeave
    (s := ((s.setRunState .faulted).setTimer s.timer.close).setBeaconPending false) h
  exact hleft.of_agenda ((State.discFaultSeen_agenda _).trans (State.ownersLeave_agenda _ _))

theorem State.SchedLawful.lineFree (h : s.SchedLawful) : s.lineFree.SchedLawful := by
  unfold State.lineFree
  split
  · exact (State.EntriesLawful.enterOff h.enabled).schedLeave.of_agenda (State.reqLeave_engineFrame _).agenda_eq
  · exact h

theorem State.SchedLawful.stop (h : s.SchedLawful) : s.stop.SchedLawful := by
  have hoff : s.enterOff.EntriesLawful := State.EntriesLawful.enterOff h.enabled
  have hcut : (s.enterOff.cutLine.schedLeave.setResult .done 0).SchedLawful :=
    (hoff.follow (State.cutLine_entriesFollow _)).schedLeave.of_agenda rfl
  unfold State.stop
  split
  · split
    · have hdraining : s.enterDraining.EntriesLawful := State.EntriesLawful.follow h.enabled (.of_eq rfl rfl)
      exact hdraining.schedWithdraw.of_agenda (State.ownersLeave_agenda _ _)
    · exact hoff.schedLeave.of_agenda (State.ownersLeave_agenda _ _)
  · exact hcut
  · exact hcut
  all_goals exact h.of_agenda rfl

theorem State.SchedLawful.halt (h : s.SchedLawful) : s.halt.SchedLawful := by
  unfold State.halt
  dsimp only
  split
  case h_5 | h_6 => exact h.of_agenda rfl
  all_goals exact (State.EntriesLawful.follow h.enabled s.haltOwners_entriesFollow).schedLeave.of_agenda rfl

/-! ### The cycle start (R53, R110 to R113) -/

/-- A cycle start at the Scheduler brings every entry under the timing set now in force, or starves it. -/
theorem State.schedCycleStart_schedLawful {before : TimingSet}
    (hentries : ∀ n, (s.entry n).enabled = true → (s.entry n).Lawful before) (hnone : s.line.schedClaim = none) :
    s.schedCycleStart.SchedLawful := by
  have hmarked : (s.updateEntries fun _ e =>
      e.atCycleStart s.timer.inForce (s.roster.issuable e.target.toNat)).EntriesLawful := by
    intro n henabled
    by_cases hn : n < 32
    · rw [State.entry_updateEntries s hn] at henabled ⊢
      exact (hentries n (SchedEntry.enabled_of_atCycleStart henabled)).atCycleStart henabled
    · rw [State.entry_out _ (Nat.not_lt.1 hn)] at henabled
      cases henabled
  unfold State.schedCycleStart
  dsimp only
  split
  · exact State.EntriesLawful.choose (hmarked.follow (.of_eq rfl rfl)) fun _ => hnone
  · exact hmarked.choose fun _ => hnone

theorem State.EntriesLawful.cycleStart (h : s.EntriesLawful) (hnone : s.line.schedClaim = none) : s.cycleStart.SchedLawful := by
  unfold State.cycleStart
  dsimp only
  refine State.SchedLawful.of_agenda ?_ (State.discCycleStart_engineFrame _ _).agenda_eq
  split
  all_goals exact State.schedCycleStart_schedLawful (before := s.timer.inForce) h hnone

theorem State.SchedLawful.openExpiry (h : s.SchedLawful) : s.openExpiry.SchedLawful := by
  unfold State.openExpiry
  split
  · next hopen =>
    exact State.EntriesLawful.cycleStart h.enabled (h.unclaimed (by simp [State.scheduling, hopen.1]))
  · exact h

theorem State.SchedLawful.unclaimed_of_not_running (h : s.SchedLawful) (hne : s.run.state ≠ .running) :
    s.line.schedClaim = none := h.unclaimed (State.scheduling_false hne)

theorem State.EntriesLawful.enterRunning (h : s.EntriesLawful) (hnone : s.line.schedClaim = none) :
    s.enterRunning.SchedLawful := by
  have hrunning : ((s.setRunState .running).setEchoCount 0).EntriesLawful := h.follow (.of_eq rfl rfl)
  exact (hrunning.cycleStart hnone).of_agenda (State.takeUp_agenda _)

theorem State.SchedLawful.start (h : s.SchedLawful) : s.start.SchedLawful := by
  unfold State.start
  split
  · next hoff =>
    exact (State.EntriesLawful.enterRunning h.enabled (h.unclaimed_of_not_running (by simp [hoff]))).of_agenda rfl
  · exact h.of_agenda rfl

theorem State.SchedLawful.lineCheckClear (h : s.SchedLawful) : s.lineCheckClear.SchedLawful := by
  unfold State.lineCheckClear
  split
  · next hclear =>
    exact State.EntriesLawful.enterRunning (State.EntriesLawful.follow h.enabled (.of_eq rfl rfl))
      (h.unclaimed_of_not_running (by simp [hclear.1]))
  · exact h

/-- The scheduled window ends (R118). -/
theorem State.SchedLawful.schedExpiry (h : s.SchedLawful) : s.schedExpiry.SchedLawful := by
  unfold State.schedExpiry
  split
  · have hopened : (s.setTimer s.timer.openOpen).EntriesLawful := State.EntriesLawful.follow h.enabled (.of_eq rfl rfl)
    exact hopened.schedWithdraw.of_agenda (State.reqWindowOpens_engineFrame _).agenda_eq
  · exact h

/-! ### The commands on the schedule table (R106 to R108) -/

theorem State.SchedLawful.schedSet (h : s.SchedLawful) : s.schedSet.SchedLawful := by
  unfold State.schedSet
  dsimp only
  split
  · exact h.of_agenda rfl
  split
  · exact h.of_agenda rfl
  · next hdisabled =>
    obtain ⟨hdue, hflight⟩ := SchedEntry.status_of_disabled hdisabled
    exact (h.setUnclaimed (e := s.host.stagedEntry) (h.claimNames_false hdue hflight) nofun).of_agenda rfl

theorem State.SchedLawful.schedEnable (h : s.SchedLawful) : s.schedEnable.SchedLawful := by
  unfold State.schedEnable
  dsimp only
  split
  · exact h.of_agenda rfl
  split
  · exact h.of_agenda rfl
  · next hpassed =>
    have hdisabled : ¬ (s.entry s.host.argNat).enabled = true := fun henabled => by
      rw [SchedEntry.enableRefusal, if_pos henabled] at hpassed
      cases hpassed
    obtain ⟨hdue, hflight⟩ := SchedEntry.status_of_disabled hdisabled
    exact (h.setUnclaimed (h.claimNames_false hdue hflight) fun _ =>
      SchedEntry.lawful_of_enableRefusal hpassed).of_agenda rfl

theorem State.SchedLawful.schedDisable (h : s.SchedLawful) : s.schedDisable.SchedLawful := by
  have hchosen : ∀ e, (s.entry s.host.argNat).Follows e →
      (((s.setEntry s.host.argNat e).setSchedClaim none).choose.setResult .done 0).SchedLawful := fun e he =>
    (State.EntriesLawful.choose (s := (s.setEntry s.host.argNat e).setSchedClaim none)
      (State.EntriesLawful.follow h.enabled ((State.setEntry_entriesFollow he).trans (.of_eq rfl rfl))) fun _ => rfl).of_agenda rfl
  have hdisabled : s.claimNames s.host.argNat = false →
      ((s.setEntry s.host.argNat { s.entry s.host.argNat with status := .disabled }).setResult .done 0).SchedLawful :=
    fun hnot => (h.setUnclaimed (e := { s.entry s.host.argNat with status := .disabled }) hnot nofun).of_agenda rfl
  unfold State.schedDisable
  dsimp only
  split
  · exact h.of_agenda rfl
  split
  case h_5 =>
    split
    · exact hchosen _ (SchedEntry.follows_disabled _)
    · next hnot => exact hdisabled (Bool.eq_false_iff.2 hnot)
  case h_6 =>
    split
    · exact (h.setFollower (SchedEntry.follows_disablePending _) rfl).of_agenda rfl
    · exact hchosen _ (SchedEntry.follows_disabledRetry _ true)
  all_goals
    next hstatus => exact hdisabled (h.claimNames_false (by simp [hstatus]) (by simp [hstatus]))

/-! ### Grants and frames (R64, R65, R70 to R72, R115) -/

theorem State.SchedLawful.echoError (h : s.SchedLawful) : s.echoError.SchedLawful := by
  unfold State.echoError
  dsimp only
  split
  · exact State.EntriesLawful.enterFaulted (State.EntriesLawful.follow h.enabled (.of_eq rfl rfl))
  · exact h.of_agenda rfl

theorem State.SchedLawful.failFrame (h : s.SchedLawful) (r : Record) (offGrid : Bool) :
    (s.failFrame r offGrid).SchedLawful := by
  have herror := State.SchedLawful.echoError (h.of_agenda (s.setRecord_agenda
    (some { r.close (some .lineError) offGrid with after := .finish })))
  unfold State.failFrame
  dsimp only
  split
  · exact herror.of_agenda (State.discLineError_agenda _)
  · exact herror

theorem State.SchedLawful.driveFrame (h : s.SchedLawful) (r : Record) : (s.driveFrame r).SchedLawful := by
  unfold State.driveFrame
  split
  · exact h.of_agenda (s.setRecord_agenda _)
  · exact h.failFrame r false

/-- The grant of the Scheduler's claim takes the claim away, and makes the attempt that the claim is for (R115). -/
theorem State.SchedLawful.grantClaim (h : s.SchedLawful) {c : Claim} {n : Nat} (hc : s.line.schedClaim = some c)
    (howner : c.owner = .scheduler n) :
    ((s.setSchedClaim none).setEntry n ((s.entry n).granted c.attempt)).SchedLawful := by
  have hwas := h.enabled n (h.claimed_enabled hc howner)
  have hnone : (s.setSchedClaim none).SchedLawful := State.EntriesLawful.unclaimed h.enabled rfl
  exact hnone.setUnclaimed rfl fun _ => ⟨hwas.target, hwas.direction, hwas.length, hwas.period, hwas.phase, hwas.retries,
    hwas.policy, hwas.fits, hwas.countdown, (h.claim c n hc howner).2⟩

theorem State.SchedLawful.grant (h : s.SchedLawful) {g : Grant} (hg : s.Grantable g) : (s.grant g).SchedLawful := by
  have hdrive : ∀ {v : State} (r : Record), v.agenda = s.agenda → (v.driveFrame r).SchedLawful := fun r hv =>
    (h.of_agenda hv).driveFrame r
  cases g with
  | beacon => exact hdrive _ rfl
  | sched c =>
    unfold State.grant
    dsimp only
    split
    · next n howner => exact (h.grantClaim hg.1 howner).driveFrame _
    · exact h
  | request c => exact hdrive _ rfl
  | round => exact hdrive _ (State.discGranted_agenda _)

theorem State.SchedLawful.decideGrant (h : s.SchedLawful) : s.decideGrant.SchedLawful := by
  have hboundary : (s.setBoundary false).SchedLawful := h.of_agenda rfl
  unfold State.decideGrant
  split
  · exact h
  refine State.SchedLawful.chooseAtBoundary ?_
  unfold State.grantDecided
  split
  · split
    · next g hg => exact hboundary.grant (State.decision_grantable hg).2
    · exact hboundary
  · exact hboundary

/-! ### The phases and the end of a transaction (R63, R76 to R78, R156) -/

theorem State.SchedLawful.onRecord (h : s.SchedLawful) {may : Record → Bool} {event : Record → State}
    (hevent : ∀ r, (event r).SchedLawful) : (s.onRecord may event).SchedLawful := by
  unfold State.onRecord
  split
  · split
    · exact hevent _
    · exact h
  · exact h

theorem State.frameSent_agenda (s : State) (r : Record) : (s.frameSent r).agenda = s.agenda := by
  unfold State.frameSent
  dsimp only
  split <;> rfl

theorem State.classify_agenda (s : State) (r : Record) (o : LineOutcome) (reply : Reply) :
    (s.classify r o reply).agenda = s.agenda := by
  unfold State.classify
  dsimp only
  split
  · exact State.discAssignOutcome_agenda _ o
  · rfl

theorem State.finishRound_agenda (s : State) (r : Record) : (s.finishRound r).agenda = s.agenda := by
  unfold State.finishRound
  dsimp only
  refine (State.discRoundEnd_engineFrame _).agenda_eq.trans ?_
  split
  · exact State.discLineError_agenda _
  · rfl

theorem State.SchedLawful.gapEnd (h : s.SchedLawful) (r : Record) : (s.gapEnd r).SchedLawful := by
  unfold State.gapEnd
  split
  · exact State.SchedLawful.lineFree (h.of_agenda rfl)
  · exact (h.deliver r _).lineFree
  · split
    · exact h.of_agenda (State.discPhase_agenda _ _)
    · exact h.driveFrame _
    · exact h.driveFrame _
    · exact h.driveFrame _
    · exact (h.of_agenda (s.finishRound_agenda r)).lineFree.of_agenda (State.roundClaimSeen_agenda _)

theorem State.SchedLawful.closingGapEnd (h : s.SchedLawful) : s.closingGapEnd.SchedLawful := by
  refine h.onRecord fun r => ?_
  split
  · exact State.SchedLawful.gapEnd (h.of_agenda (s.setBoundary_agenda false)) r
  · exact h.gapEnd r

/-! ### The end of a bit time (R47, R64, R113) -/

theorem CycleTimer.tick_inForce (timer : CycleTimer) : timer.tick.inForce = timer.inForce := by
  have hframe := congrArg CycleTimer.inForce timer.tick_frame
  exact hframe

theorem State.counted_agenda (s : State) (mid fin : Level) : (s.counted mid fin).agenda = s.agenda := by
  simp only [State.agenda, State.scheduling, State.counted, CycleTimer.tick_inForce, CycleTimer.tick_window]

theorem State.SchedLawful.bitTimeEnd (h : s.SchedLawful) (mid fin : Level) : (s.bitTimeEnd mid fin).SchedLawful := by
  unfold State.bitTimeEnd
  split
  · exact State.SchedLawful.boundaryChoice
      ((h.of_agenda (s.counted_agenda mid fin)).of_agenda (State.slotPhase_agenda _))
  · exact h

/-! ### One step -/

theorem State.resetBlocks_schedLawful (s : State) (asserted : Bool) : (s.resetBlocks asserted).SchedLawful :=
  State.schedLawful_reset.of_agenda rfl

theorem commandTable_owner_schedLawful : ∀ p ∈ commandTable, ∀ u : State, u.SchedLawful → (p.2 u).SchedLawful := by
  simp only [commandTable, List.forall_mem_cons]
  exact ⟨fun u _ => u.resetBlocks_schedLawful false, fun _ h => h.start, fun _ h => h.stop, fun _ h => h.halt,
    fun u h => h.of_agenda u.resume_agenda, fun u h => h.of_agenda u.timingLoad_agenda,
    fun u h => h.of_agenda u.threshLoad_agenda, fun u h => h.of_agenda u.pin_agenda, fun u h => h.of_agenda u.unpin_agenda,
    fun u h => h.of_agenda u.clearConflict_agenda, fun u h => h.of_agenda u.popChange_agenda,
    fun u h => h.of_agenda u.stationSnap_agenda, fun _ h => h.schedSet, fun _ h => h.schedEnable, fun _ h => h.schedDisable,
    fun u h => h.of_agenda u.schedSnap_agenda, fun u h => h.of_agenda u.take_agenda, fun u h => h.of_agenda u.put_agenda,
    fun u h => h.of_agenda u.submit_agenda, fun u h => h.of_agenda u.cancel_agenda,
    fun u h => h.of_agenda u.popCompletion_agenda, List.forall_mem_nil _⟩

/-- Every event of the pins, the timer and the line keeps the laws. -/
theorem event_schedLawful {c : Instr} (hevent : isEvent c = true) (hexec : exec c s = .next t) (h : s.SchedLawful) :
    t.SchedLawful := by
  cases c with
  | resetPinAssert duringRead =>
    cases hexec
    unfold State.resetPinAssert
    dsimp only
    split
    all_goals exact (s.resetBlocks_schedLawful true).of_agenda rfl
  | resetPinRelease =>
    cases hexec
    unfold State.resetPinRelease
    split
    · exact s.resetBlocks_schedLawful false
    · exact h
  | initEnd => cases hexec; exact h.of_agenda s.initEnd_agenda
  | lineCheckStuck => cases hexec; exact h.of_agenda s.lineCheckStuck_agenda
  | lineCheckClear => cases hexec; exact h.lineCheckClear
  | winDataRead =>
    cases hexec
    unfold State.winDataRead
    split <;> exact h.of_agenda rfl
  | cycleStart => cases hexec; exact h.openExpiry
  | schedWindowEnd => cases hexec; exact h.schedExpiry
  | grantDecision => cases hexec; exact h.decideGrant
  | echoMismatch lrx => cases hexec; exact h.onRecord fun r => h.failFrame r true
  | frameSentClean => cases hexec; exact h.onRecord fun r => h.of_agenda (s.frameSent_agenda r)
  | responseWaitExpiry => cases hexec; exact h.onRecord fun r => h.of_agenda (s.classify_agenda _ _ _)
  | replyReceptionEnd bytes onGrid => cases hexec; exact h.onRecord fun r => h.of_agenda (s.classify_agenda _ _ _)
  | replyDeadline => cases hexec; exact h.onRecord fun r => h.of_agenda (s.classify_agenda _ _ _)
  | checkSlotsEnd => cases hexec; exact h.onRecord fun r => h.of_agenda (s.discDecide_agenda _ _)
  | closingGapEnd => cases hexec; exact h.closingGapEnd
  | replyLeadingEdge onGrid => cases hexec; exact h.onRecord fun r => h.of_agenda (s.setRecord_agenda _)
  | bitTimeEnd mid fin => cases hexec; exact h.bitTimeEnd mid fin
  | registerWrite addr value => rw [not_isEvent_registerWrite] at hevent; cases hevent
  | _ => cases hevent

/-- Settles O54: the host's accesses by their owners (`exec_keeps`), the events by `event_schedLawful`. -/
theorem schedLaw : Obligations.SchedLaw := by
  intro s t hlawful hstep
  cases hp : s.pending with
  | nil =>
    rw [step_of_pending_nil hp] at hstep
    cases hstep
    exact hlawful
  | cons c rest =>
    have hexec : exec c (s.setPending rest) = .next t := by
      unfold step at hstep
      rwa [hp] at hstep
    exact exec_keeps (P := State.SchedLawful) (fun u host h => h.of_agenda (u.setHost_agenda host))
      commandTable_owner_schedLawful (fun hevent => event_schedLawful hevent hexec) hexec
      (hlawful.of_agenda (s.setPending_agenda rest))

end Sys2Proof.Machine
end

section
/-! PROOFS. SCHED_DISABLE: the entry disabled, with the claim that names it withdrawn and another chosen (R108, R113, R114, R171). -/

namespace Sys2Proof.Machine

open Sys2Proof

variable {s : State} {n : Nat} {e : SchedEntry}

/-! ### Another claim chosen (R113) -/

/-- An entry replaced, the claim withdrawn, and another chosen where the Scheduler chooses. -/
def State.rechosen (s : State) (n : Nat) (e : SchedEntry) : State := ((s.setEntry n e).setSchedClaim none).choose

/-- The choice leaves an entry that is DISABLED. -/
theorem State.rechosen_entry (hn : n < 32) (he : e.status = .disabled) : (s.rechosen n e).entry n = e := by
  have hset : ((s.setEntry n e).setSchedClaim none).entry n = e := s.entry_setEntry_self hn e
  rw [State.rechosen, State.choose_entry_of_not_due _ (by rw [hset, he]; nofun), hset]

/-- The claim chosen is for a DUE entry, so none names one that is DISABLED. -/
theorem State.rechosen_claimNames (hn : n < 32) (he : e.status = .disabled) : (s.rechosen n e).claimNames n = false := by
  have hset : ((s.setEntry n e).setSchedClaim none).entry n = e := s.entry_setEntry_self hn e
  unfold State.claimNames State.rechosen
  rcases ((s.setEntry n e).setSchedClaim none).choose_claim with ⟨hnone, -⟩ | ⟨-, hnone | ⟨m, -, hclaim, -, hcandidate⟩⟩
  · rw [hnone]; rfl
  · rw [hnone]
  · have hne : m ≠ n := by
      rintro rfl
      have hdue := ((State.candidate_iff _ m).1 hcandidate).1
      rw [hset, he] at hdue
      cases hdue
    rw [hclaim, SchedEntry.claim_eq]
    simpa using hne

theorem State.rechosen_chosen (h : s.scheduling = true) : (s.setEntry n e).Chosen (s.rechosen n e) :=
  (State.choose_chosen ((s.setEntry n e).setSchedClaim none) h).congr rfl rfl rfl rfl rfl

theorem State.rechosen_of_not_scheduling (h : s.scheduling = false) :
    s.rechosen n e = (s.setEntry n e).setSchedClaim none := State.choose_of_not_scheduling _ h

/-- Beside the entry and the claim, another choice shows in the schedule alone. -/
theorem State.rechosen_frame (s : State) (n : Nat) (e : SchedEntry) : s.rechosen n e = { s with
    line := { s.line with schedClaim := (s.rechosen n e).line.schedClaim }
    sched := { s.sched with entries := (s.rechosen n e).sched.entries } } := by
  rw [State.rechosen, State.choose_frame]; rfl

/-! ### SCHED_DISABLE by the status of the entry (R108) -/

theorem State.exec_schedDisable (h : s.accepts) : exec .schedDisable s = .next (s.setCmd 0x32).schedDisable :=
  congrArg Host.Outcome.next (State.command_accepted h _ _)

theorem State.schedDisable_noEntry (hn : ¬ s.host.argNat < 32) : s.schedDisable = s.setResult .badArg 0 :=
  if_pos (s.not_argEntry_iff.2 hn)

section
variable (hn : s.host.argNat < 32)
include hn

theorem State.schedDisable_idle (h : (s.entry s.host.argNat).status = .disabled ∨ (s.entry s.host.argNat).status = .starved ∨
    (s.entry s.host.argNat).status = .waiting ∨ (s.entry s.host.argNat).status = .held ∨
      ((s.entry s.host.argNat).status = .due ∧ s.claimNames s.host.argNat = false)) :
    s.schedDisable =
      (s.setEntry s.host.argNat { s.entry s.host.argNat with status := .disabled }).setResult .done 0 := by
  rcases h with h | h | h | h | ⟨h, hnot⟩
  case inr.inr.inr.inr => simp [State.schedDisable, State.argEntry, hn, h, hnot]
  all_goals simp [State.schedDisable, State.argEntry, hn, h]

theorem State.schedDisable_claimed (h : (s.entry s.host.argNat).status = .due)
    (hclaim : s.claimNames s.host.argNat = true) : s.schedDisable =
      (s.rechosen s.host.argNat { s.entry s.host.argNat with status := .disabled }).setResult .done 0 := by
  simp [State.schedDisable, State.argEntry, hn, h, hclaim, State.rechosen]

theorem State.schedDisable_onLine (h : (s.entry s.host.argNat).status = .inFlight)
    (hline : s.entryOnLine s.host.argNat = true) : s.schedDisable =
      (s.setEntry s.host.argNat { s.entry s.host.argNat with disablePending := true }).setResult .done 1 := by
  simp [State.schedDisable, State.argEntry, hn, h, hline]

theorem State.schedDisable_retryWaiting (h : (s.entry s.host.argNat).status = .inFlight)
    (hline : s.entryOnLine s.host.argNat = false) : s.schedDisable =
      (s.rechosen s.host.argNat { (s.entry s.host.argNat).endIssue true with status := .disabled }).setResult .done 0 := by
  simp [State.schedDisable, State.argEntry, hn, h, hline, State.rechosen]

end

/-- Settles O52: the cases of `State.schedDisable`; where a claim is withdrawn, what another choice leaves. -/
theorem scheduleEntryDisabled : Obligations.ScheduleEntryDisabled := by
  intro s hs n e chosenAgain
  rw [State.exec_schedDisable hs]
  refine ⟨fun hn => congrArg _ (State.schedDisable_noEntry hn), fun hn => ?_⟩
  have hagain : ∀ e', e'.status = .disabled → chosenAgain (((s.setCmd 0x32).rechosen n e').setResult .done 0) e' := by
    intro e' he
    have hframe := (s.setCmd 0x32).rechosen_frame n e'
    have hchosen : s.run.state = .running → s.timer.window = .sched →
        (s.setEntry n e').Chosen (((s.setCmd 0x32).rechosen n e').setResult .done 0) := fun hrun hwindow => by
      have hscheduling : (s.setCmd 0x32).scheduling = true := by simp [State.scheduling, hrun, hwindow]
      exact (State.rechosen_chosen hscheduling).congr rfl rfl rfl rfl rfl
    have hidle : ¬ (s.run.state = .running ∧ s.timer.window = .sched) →
        (∀ k, ((s.setCmd 0x32).rechosen n e').entry k = (s.setEntry n e').entry k) ∧
          ((s.setCmd 0x32).rechosen n e').line.schedClaim = none := fun hnot => by
      have hscheduling : (s.setCmd 0x32).scheduling = false := by simpa [State.scheduling] using hnot
      rw [State.rechosen_of_not_scheduling hscheduling]
      exact ⟨fun _ => rfl, rfl⟩
    refine ⟨State.rechosen_entry hn he, State.rechosen_claimNames hn he, ?_, ?_, ?_, ?_, ?_, ?_, ?_, ?_, hchosen, hidle⟩
    all_goals rw [hframe]; rfl
  exact ⟨fun h => congrArg _ (State.schedDisable_idle (s := s.setCmd 0x32) hn h),
    fun h hclaim => ⟨_, congrArg _ (State.schedDisable_claimed (s := s.setCmd 0x32) hn h hclaim), hagain _ rfl⟩,
    fun h hline => congrArg _ (State.schedDisable_onLine (s := s.setCmd 0x32) hn h hline),
    fun h hline => ⟨_, congrArg _ (State.schedDisable_retryWaiting (s := s.setCmd 0x32) hn h hline), hagain _ rfl⟩⟩

end Sys2Proof.Machine
end

section
/-! PROOFS. TAKE and PUT: the checks, the bytes copied between a mailbox and the host's buffers, and the frame (R125, R128, R171,
R178, R180). -/

namespace Sys2Proof.Machine

open Sys2Proof

variable {s : State}

/-! ### Bytes in words (section 12.5) -/

theorem packBytes_length (n : Nat) (bs : List Byte) : (packBytes n bs).length = n := by
  induction n generalizing bs with
  | zero => rfl
  | succ n ih => rw [packBytes, List.length_cons, ih]

/-- Each word packed holds two bytes, the lower-numbered in bits 15:8. -/
theorem packBytes_getD {n k : Nat} (hk : k < n) (bs : List Byte) :
    (packBytes n bs).getD k 0 = (bs.getD (2 * k) 0 ++ bs.getD (2 * k + 1) 0 : BitVec (8 + 8)) := by
  induction n generalizing k bs with
  | zero => omega
  | succ n ih =>
    match k with
    | 0 => rfl
    | k + 1 =>
      have hdrop : ∀ i, (bs.drop 2).getD i 0 = bs.getD (2 + i) 0 := fun i => by
        simp only [List.getD_eq_getElem?_getD, List.getElem?_drop]
      rw [packBytes, List.getD_cons_succ, ih (by omega), hdrop, hdrop, show 2 + 2 * k = 2 * (k + 1) by omega,
        show 2 + (2 * k + 1) = 2 * (k + 1) + 1 by omega]

/-- A number that fits a word. -/
theorem toNat_word {n : Nat} (h : n < 65536) : (BitVec.ofNat 16 n : Word).toNat = n := Nat.mod_eq_of_lt h

/-- The take buffer's layout: entry and length, fill cycle, overrun, then the data bytes (R125). -/
theorem Mailbox.takeWords_fields {m : Mailbox} {n : Nat} (hn : n < 32) (hlength : m.data.length ≤ 32)
    (hoverrun : m.overrun ≤ 255) : let word := fun k => (m.takeWords n).getD k 0
      (word 0).loByte.toNat = n ∧ (word 0).hiByte.toNat = m.data.length ∧ word 1 = m.fillCycle ∧
        (word 2).toNat = m.overrun ∧ ∀ k < 16, (word (3 + k)).hiByte = m.data.getD (2 * k) 0 ∧
          (word (3 + k)).loByte = m.data.getD (2 * k + 1) 0 := by
  refine ⟨pairWord_low (by decide) (by omega), pairWord_high (by decide) (by omega), rfl, toNat_word (by omega),
    fun k hk => ?_⟩
  have hword : (m.takeWords n).getD (3 + k) 0 = (packBytes 16 m.data).getD k 0 := by
    rw [Nat.add_comm]; rfl
  simp only [hword, packBytes_getD hk]
  exact ⟨Word.hiByte_append _ _, Word.loByte_append _ _⟩

/-- The data of the put buffer: as many bytes as its word 0 says, from word 1 on (R128, R180). -/
theorem HostPort.putData_bytes (h : HostPort) (hlength : h.putLength ≤ 32) : h.putData.length = h.putLength ∧
    ∀ k < h.putLength, h.putData.getD k 0 =
      if k % 2 = 0 then (h.putBuf.get (1 + k / 2) 0).hiByte else (h.putBuf.get (1 + k / 2) 0).loByte := by
  have hword : ∀ i, (h.putBuf.cells.drop 1).getD i 0 = h.putBuf.get (1 + i) 0 := fun i => by
    simp [Table.get, List.getD_eq_getElem?_getD, Nat.add_comm]
  unfold HostPort.putData
  refine ⟨?_, fun k hk => ?_⟩
  · rw [List.length_take, unpackBytes_length, List.length_drop, h.putBuf.size]
    omega
  · rw [List.getD_eq_getElem?_getD, List.getElem?_take_of_lt hk, ← List.getD_eq_getElem?_getD, ← hword]
    exact unpackBytes_getD _ k

/-! ### The direction of an entry (section 12.4) -/

theorem SchedEntry.isRead_iff (e : SchedEntry) : e.isRead = true ↔ e.direction = 0 := beq_iff_eq

theorem SchedEntry.isWrite_iff (e : SchedEntry) : e.isWrite = true ↔ e.direction = 1 := beq_iff_eq

/-! ### TAKE (R125) -/

theorem State.exec_take (h : s.accepts) : exec .take s = .next (s.setCmd 0x40).take :=
  congrArg Host.Outcome.next (State.command_accepted h _ _)

theorem State.take_noEntry (hn : ¬ s.host.argNat < 32) : s.take = s.setResult .badArg 0 := if_pos (s.not_argEntry_iff.2 hn)

/-- The mailbox emptied, and its words in the take buffer. -/
def State.mailboxTaken (s : State) (n : Nat) : State :=
  (s.setMailbox n { s.mailbox n with full := false }).setHost
    { s.host with takeBuf := wordTable 19 ((s.mailbox n).takeWords n) }

/-- A TAKE fills the take buffer; beside it the mailbox and the result alone change. -/
theorem State.mailboxTaken_copied (s : State) (n val : Nat) : ∃ t, (s.mailboxTaken n).setResult .done val = t ∧
    (let done := (s.setMailbox n { s.mailbox n with full := false }).setResult .done val
     t = { done with host := { done.host with takeBuf := t.host.takeBuf } }) ∧
    ∀ k < 19, t.host.takeBuf.get k 0 = ((s.mailbox n).takeWords n).getD k 0 :=
  ⟨_, rfl, rfl, fun _ hk => wordTable_get 19 _ hk⟩

/-- TAKE for an entry of the schedule: the direction and the full flag decide, in this order. -/
theorem State.take_eq (hn : s.host.argNat < 32) : s.take =
    if (s.entry s.host.argNat).direction ≠ 0 then s.setResult .wrongDirection 0
    else if (s.mailbox s.host.argNat).full = false then s.setResult .empty 0
    else (s.mailboxTaken s.host.argNat).setResult .done (s.mailbox s.host.argNat).data.length := by
  unfold State.take
  simp only [State.not_argEntry_iff, not_not.2 hn, if_false, ← Bool.not_eq_true, SchedEntry.isRead_iff]
  rfl

/-! ### PUT (R128) -/

theorem State.exec_put (h : s.accepts) : exec .put s = .next (s.setCmd 0x41).put :=
  congrArg Host.Outcome.next (State.command_accepted h _ _)

theorem State.put_noEntry (hn : ¬ s.host.argNat < 32) : s.put = s.setResult .badArg 0 := if_pos (s.not_argEntry_iff.2 hn)

/-- PUT for an entry of the schedule: the direction and the length decide, in this order. -/
theorem State.put_eq (hn : s.host.argNat < 32) : s.put =
    let m := s.mailbox s.host.argNat
    let overrun := if m.fresh then min (m.overrun + 1) 255 else m.overrun
    if (s.entry s.host.argNat).direction ≠ 1 then s.setResult .wrongDirection 0
    else if ¬ (1 ≤ s.host.putLength ∧ s.host.putLength ≤ 32 ∧
        s.host.putLength ≤ (s.entry s.host.argNat).length.toNat) then s.setResult .badArg 1
    else (s.setMailbox s.host.argNat { m with
        data := s.host.putData, fresh := true, overrun
        replaced := m.replaced || s.entryOnLine s.host.argNat }).setResult .done overrun := by
  unfold State.put
  simp only [State.not_argEntry_iff, not_not.2 hn, if_false, ← Bool.not_eq_true, SchedEntry.isWrite_iff]
  rfl

/-- Settles O53: the branches of `State.take_eq` and `State.put_eq`, with the bytes that each copies. -/
theorem takeAndPut : Obligations.TakeAndPut := by
  intro s hs n m len overrun
  rw [State.exec_take hs, State.exec_put hs]
  refine ⟨fun hn => ⟨congrArg _ (State.take_noEntry hn), congrArg _ (State.put_noEntry hn)⟩, fun hn => ?_⟩
  rw [State.take_eq (s := s.setCmd 0x40) hn, State.put_eq (s := s.setCmd 0x41) hn]
  refine ⟨fun hdir => congrArg _ (if_pos hdir), fun hdir hfull => ?_, fun hdir hfull => ?_,
    fun hdir => congrArg _ (if_pos hdir), fun hdir hlen => ?_, fun hdir hpos hmax hfits => ?_⟩
  · exact congrArg _ ((if_neg (not_not.2 hdir)).trans (if_pos hfull))
  · obtain ⟨t, ht, hframe, hword⟩ := (s.setCmd 0x40).mailboxTaken_copied n m.data.length
    refine ⟨t, congrArg _ (((if_neg (not_not.2 hdir)).trans (if_neg (ne_false_of_eq_true hfull))).trans ht), hframe,
      fun hlength hoverrun => ?_⟩
    obtain ⟨hentry, hcount, hcycle, hlost, hdata⟩ := Mailbox.takeWords_fields (m := m) hn hlength hoverrun
    rw [hword 0 (by decide), hword 1 (by decide), hword 2 (by decide)]
    exact ⟨hentry, hcount, hcycle, hlost, fun k hk => by rw [hword (3 + k) (by omega)]; exact hdata k hk⟩
  · exact congrArg _ ((if_neg (not_not.2 hdir)).trans (if_pos hlen))
  · obtain ⟨hlength, hbytes⟩ := s.host.putData_bytes hmax
    exact ⟨s.host.putData, hlength, hbytes,
      congrArg _ ((if_neg (not_not.2 hdir)).trans (if_neg (not_not.2 ⟨hpos, hmax, hfits⟩)))⟩

end Sys2Proof.Machine
end

section
/-! PROOFS. The Host Port's window: what an access to WIN_SEL, WIN_INDEX and WIN_DATA does, region by region (R166 to R169). -/

namespace Sys2Proof.Machine

open Sys2Proof

variable {s : State}

/-! ### The regions (R168) -/

/-- The length in words of the region selected, 0 for a selection of none. -/
def regionLength (sel : Word) : Nat := ([12, 20, 6, 17, 19, 22, 4, 12] : List Nat).getD sel.toNat 0

theorem regionSize_eq (sel : Word) : regionSize sel =
    if sel.toNat < 8 then some (regionLength sel) else none := by
  unfold regionSize regionLength
  generalize sel.toNat = k
  match k with
  | 0 | 1 | 2 | 3 | 4 | 5 | 6 | 7 => rfl
  | k + 8 => rfl

theorem hostFilled_iff {sel : Word} : hostFilled sel = true ↔ sel = 1 ∨ sel = 2 ∨ sel = 3 ∨ sel = 6 := by
  simp [hostFilled, ← BitVec.toNat_inj]

theorem State.regionWord_unselected (s : State) {sel : Word} (h : 8 ≤ sel.toNat) (k : Nat) : s.regionWord sel k = 0 := by
  unfold State.regionWord
  split
  any_goals omega
  rfl

theorem hostFilled_unselected {sel : Word} (h : 8 ≤ sel.toNat) : hostFilled sel = false := by
  refine Bool.eq_false_iff.2 fun hfilled => ?_
  rcases hostFilled_iff.1 hfilled with rfl | rfl | rfl | rfl <;> exact absurd h (by decide)

/-! ### The advance of the index (R167) -/

theorem HostPort.advance_selected {h : HostPort} (hsel : h.winSel.toNat < 8) : h.advance =
    { h with winIndex :=
        if h.winIndex.toNat + 1 < regionLength h.winSel then h.winIndex + 1
        else 0 } := by
  rw [HostPort.advance, regionSize_eq, if_pos hsel]
  rfl

theorem HostPort.advance_unselected {h : HostPort} (hsel : 8 ≤ h.winSel.toNat) : h.advance = h := by
  rw [HostPort.advance, regionSize_eq, if_neg (by omega)]

/-- The index shows in no region. -/
theorem State.regionWord_advance (s : State) (h : HostPort) (sel : Word) (k : Nat) :
    (s.setHost h.advance).regionWord sel k = (s.setHost h).regionWord sel k := by
  unfold HostPort.advance
  split <;> rfl

/-! ### A word stored (R167, R168, R169) -/

/-- A store reaches the four areas the host fills, and nothing else of the Host Port. -/
theorem HostPort.storeWord_frame (h : HostPort) (sel : Word) (i : Nat) (v : Word) : ∃ reqStage schedStage putBuf pinStage,
    h.storeWord sel i v = { h with reqStage, schedStage, putBuf, pinStage } := by
  unfold HostPort.storeWord
  split <;> exact ⟨_, _, _, _, rfl⟩

theorem HostPort.storeWord_not_filled (h : HostPort) {sel : Word} (hsel : hostFilled sel = false) (i : Nat) (v : Word) :
    h.storeWord sel i v = h := by
  unfold HostPort.storeWord
  split
  case h_5 => rfl
  all_goals simp [hostFilled, *] at hsel

section
variable {sel : Word} {i : Nat}

theorem State.regionWord_storeWord_self (s : State) (hsel : hostFilled sel = true)
    (hi : i < regionLength sel) (v : Word) :
    (s.setHost (s.host.storeWord sel i v)).regionWord sel i = v := by
  rcases hostFilled_iff.1 hsel with rfl | rfl | rfl | rfl
  all_goals exact Table.get_set_self _ hi _ _

theorem State.regionWord_storeWord_index (s : State) (hsel : hostFilled sel = true) {k : Nat} (hk : k ≠ i) (v : Word) :
    (s.setHost (s.host.storeWord sel i v)).regionWord sel k = s.regionWord sel k := by
  rcases hostFilled_iff.1 hsel with rfl | rfl | rfl | rfl
  all_goals exact Table.get_set_ne _ hk.symm _ _

theorem State.regionWord_storeWord_region (s : State) {region : Word} (h : region ≠ sel) (i : Nat) (v : Word) (k : Nat) :
    (s.setHost (s.host.storeWord sel i v)).regionWord region k = s.regionWord region k := by
  have hne : region.toNat ≠ sel.toNat := fun heq => h (BitVec.eq_of_toNat_eq heq)
  unfold HostPort.storeWord
  split
  case h_5 => rfl
  all_goals
    unfold State.regionWord
    split
    any_goals rfl
    omega

end

/-! ### The accesses -/

theorem State.exec_winSelWrite (h : s.accepts) (v : Word) :
    exec (.winSelWrite v) s = .next (s.setHost { s.host with winSel := v, winIndex := 0 }) :=
  congrArg Host.Outcome.next (State.busWrite_accepted h _)

theorem State.exec_winIndexWrite (h : s.accepts) (v : Word) : exec (.winIndexWrite v) s =
    .next (if v.toNat < regionLength s.host.winSel then
      s.setHost { s.host with winIndex := v } else s) := by
  refine congrArg Host.Outcome.next ((State.busWrite_accepted h _).trans ?_)
  rw [regionSize_eq]
  by_cases hsel : s.host.winSel.toNat < 8
  · rw [if_pos hsel]
  · rw [if_neg hsel, regionLength, List.getD_eq_default _ _ (by simpa using hsel), if_neg (Nat.not_lt_zero _)]

theorem State.exec_winDataRead (h : s.accepts) : exec .winDataRead s =
    .next ((s.setHost s.host.advance).setDataBus (s.regionWord s.host.winSel s.host.winIndex.toNat)) :=
  congrArg Host.Outcome.next (if_neg (by simp [h.1, h.2]))

theorem State.exec_winDataWrite (h : s.accepts) (v : Word) : exec (.winDataWrite v) s =
    .next (s.setHost (s.host.storeWord s.host.winSel s.host.winIndex.toNat v).advance) :=
  congrArg Host.Outcome.next (State.busWrite_accepted h _)

end Sys2Proof.Machine
end

section
/-! PROOFS. What the window and the read-only registers show: CQ_HEAD, TIMING, STATUS, QCOUNT, the counts, the mailbox image, and
WIN_DATA with them (R132, R145, R166 to R169, R176, R178, R179, sections 12.2 to 12.5). -/

namespace Sys2Proof

/-! ### A word of two bytes, as a number and bit by bit -/

theorem pairWord_toNat {hi lo : Nat} (hhi : hi < 256) (hlo : lo < 256) : (pairWord hi lo).toNat = 256 * hi + lo := by
  have hor : hi <<< 8 + lo = hi <<< 8 ||| lo := Nat.shiftLeft_add_eq_or_of_lt hlo hi
  rw [pairWord, BitVec.toNat_append, BitVec.toNat_ofNat, BitVec.toNat_ofNat, Nat.mod_eq_of_lt hhi, Nat.mod_eq_of_lt hlo,
    ← hor, Nat.shiftLeft_eq]
  omega

/-- The two nibbles of the low byte. -/
theorem pairWord_nibbles {hi a b : Nat} (hhi : hi < 256) (ha : a < 8) (hb : b < 4) :
    ((pairWord hi (a + 16 * b)).extractLsb' 0 3).toNat = a ∧ ((pairWord hi (a + 16 * b)).extractLsb' 4 2).toNat = b := by
  simp only [BitVec.extractLsb'_toNat, pairWord_toNat hhi (show a + 16 * b < 256 by omega), Nat.shiftRight_eq_div_pow]
  omega

theorem getLsbD_pairWord_high {k : Nat} (h8 : 8 ≤ k) (h16 : k < 16) (hi lo : Nat) :
    (pairWord hi lo).getLsbD k = hi.testBit (k - 8) := by
  rw [pairWord, BitVec.getLsbD_append, if_neg (by omega), BitVec.getLsbD_ofNat]
  simp
  omega

/-- The bits of a low byte above a number that leaves them clear. -/
theorem getLsbD_pairWord_clear {hi lo j k : Nat} (hlo : lo < 2 ^ j) (hj : j ≤ k) (h8 : k < 8) :
    (pairWord hi lo).getLsbD k = false := by
  rw [getLsbD_pairWord h8]
  exact Nat.testBit_lt_two_pow (Nat.lt_of_lt_of_le hlo (Nat.pow_le_pow_right Nat.two_pos hj))

theorem getLsbD_pairWord_high_clear {hi lo j k : Nat} (hhi : hi < 2 ^ j) (hj : j + 8 ≤ k) (h16 : k < 16) :
    (pairWord hi lo).getLsbD k = false := by
  rw [getLsbD_pairWord_high (by omega) h16]
  exact Nat.testBit_lt_two_pow (Nat.lt_of_lt_of_le hhi (Nat.pow_le_pow_right Nat.two_pos (by omega)))

/-- The bits of the low byte, nibble by nibble. -/
theorem getLsbD_pairWord_nibbles {hi a b k : Nat} (ha : a < 16) (h8 : k < 8) :
    (pairWord hi (a + 16 * b)).getLsbD k = if k < 4 then a.testBit k else b.testBit (k - 4) := by
  rw [getLsbD_pairWord h8, Nat.add_comm]
  exact Nat.testBit_two_pow_mul_add b (i := 4) ha k

/-- Bits put together one by one. -/
theorem getLsbD_foldl_bitAt (f : Nat → Bool) (ks : List Nat) (w : Word) {n : Nat} (hn : n < 16) :
    (ks.foldl (fun w k => w ||| bitAt (f k) k) w).getLsbD n = (w.getLsbD n || (decide (n ∈ ks) && f n)) := by
  induction ks generalizing w with
  | nil => simp
  | cons k ks ih =>
    rw [List.foldl_cons, ih, BitVec.getLsbD_or, getLsbD_bitAt]
    by_cases hk : n = k
    · subst hk
      cases hf : f n <;> simp [hn]
    · simp [hk]

end Sys2Proof

namespace Sys2Proof.Machine

open Sys2Proof

variable (s : State)

theorem RunState.code_lt (st : RunState) : st.code < 8 := by cases st <;> decide
theorem Window.code_lt (w : Window) : w.code < 4 := by cases w <;> decide
theorem CheckResult.code_lt (c : CheckResult) : c.code < 4 := by cases c <;> decide
theorem ResultCode.code_lt (c : ResultCode) : c.code < 16 := by cases c <;> decide

theorem Discovery.active_iff (d : Discovery) : d.active = true ↔ d ≠ .idle := by
  cases d <;> simp [Discovery.active]

/-! ### CQ_HEAD (R145, R168) -/

theorem State.cqHead_nil (h : s.req.completions = []) (k : Nat) : s.regionWord 5 k = 0 := by
  show s.cqHeadWords.getD k 0 = 0
  rw [State.cqHeadWords, h]
  rfl

theorem State.cqHead_cons {c : Completion} {rest : List Completion} (h : s.req.completions = c :: rest) (k : Nat) :
    s.regionWord 5 k = c.words.getD k 0 := by
  show s.cqHeadWords.getD k 0 = _
  rw [State.cqHeadWords, h]

theorem Completion.words_payload (c : Completion) {k : Nat} (hk : k < 16) : c.words.getD (4 + k) 0 =
    (c.payload.getD (2 * k) 0 ++ c.payload.getD (2 * k + 1) 0 : BitVec (8 + 8)) := by
  rw [← packBytes_getD hk, Completion.words, List.getD_append _ _ _ _ (by simp [packBytes_length]; omega),
    List.getD_append_right _ _ _ _ (by simp)]
  simp

/-- The words of a completion record (R142, section 12.5). -/
theorem Completion.words_fields (c : Completion) : let field := fun (w : Word) low width => (w.extractLsb' low width).toNat
    let word := fun k => c.words.getD k 0
    (c.tag < 256 → field (word 0) 0 8 = c.tag) ∧ field (word 0) 8 8 = c.kind.code ∧
      (c.address < 256 → field (word 1) 0 8 = c.address) ∧ (c.attempts < 256 → field (word 1) 8 8 = c.attempts) ∧
      field (word 2) 0 8 = c.outcome.code ∧ field (word 2) 8 8 = c.status.code ∧
      (c.length < 256 → field (word 3) 0 8 = c.length) ∧ (c.totalNoisy < 256 → field (word 3) 8 8 = c.totalNoisy) ∧
      (∀ k, k < 16 → (word (4 + k)).extractLsb' 8 8 = c.payload.getD (2 * k) 0 ∧
        (word (4 + k)).extractLsb' 0 8 = c.payload.getD (2 * k + 1) 0) ∧
      (c.newStations < 256 → field (word 20) 0 8 = c.newStations) ∧ (c.rejoined < 256 → field (word 20) 8 8 = c.rejoined) ∧
      (c.rounds < 65536 → (word 21).toNat = c.rounds) := by
  have hkind := c.kind.code_lt
  have houtcome := c.outcome.code_lt
  have hstatus := c.status.code_lt
  refine ⟨fun h => pairWord_low (by decide) h, pairWord_high (by decide) (by omega), fun h => pairWord_low (by decide) h,
    fun h => pairWord_high (by decide) h, pairWord_low (by decide) (by omega), pairWord_high (by decide) (by omega),
    fun h => pairWord_low (by decide) h, fun h => pairWord_high (by decide) h, fun k hk => ?_,
    fun h => pairWord_low (by decide) h, fun h => pairWord_high (by decide) h, fun h => toNat_word h⟩
  dsimp only
  rw [c.words_payload hk]
  exact ⟨Word.hiByte_append _ _, Word.loByte_append _ _⟩

/-! ### TIMING (R45, R168) -/

theorem State.timing_flag : (s.regionWord 7 10).toNat = if s.timer.pendingPresent then 1 else 0 := by
  show (bitAt s.timer.pendingPresent 0).toNat = _
  cases s.timer.pendingPresent <;> rfl

theorem State.timing_window : (s.regionWord 7 11).toNat = s.timer.window.code :=
  toNat_word (Nat.lt_trans s.timer.window.code_lt (by decide))

/-! ### STATUS and QCOUNT (section 12.2) -/

theorem State.statusWord_fields : let field := fun (w : Word) low width => (w.extractLsb' low width).toNat
    field s.statusWord 0 3 = s.run.state.code ∧ field s.statusWord 4 2 = s.timer.window.code ∧
      field s.statusWord 8 2 = s.run.lineCheck.code := by
  have hrun := s.run.state.code_lt
  have hwindow := s.timer.window.code_lt
  have hcheck := s.run.lineCheck.code_lt
  have hfield : ∀ {low width : Nat}, (6 < low ∨ low + width ≤ 6) ∧ (10 < low ∨ low + width ≤ 10) →
      s.statusWord.extractLsb' low width =
        (pairWord s.run.lineCheck.code (s.run.state.code + 16 * s.timer.window.code)).extractLsb' low width := by
    intro low width ⟨h6, h10⟩
    rw [State.statusWord, BitVec.extractLsb'_or, BitVec.extractLsb'_or, extractLsb'_bitAt _ h6, extractLsb'_bitAt _ h10]
    simp
  obtain ⟨hlow, hhigh⟩ := pairWord_nibbles (hi := s.run.lineCheck.code) (by omega) hrun hwindow
  dsimp only
  rw [hfield (by decide), hfield (by decide), hfield (by decide)]
  exact ⟨hlow, hhigh, pairWord_high (by decide) hcheck⟩

/-- STATUS bit by bit outside its fields: the sweep, the pending set, and the bits that are always 0. -/
theorem State.statusWord_bits : s.statusWord.getLsbD 6 = s.disc.active ∧ s.statusWord.getLsbD 10 = s.timer.pendingPresent ∧
    ∀ k ∈ [3, 7, 11, 12, 13, 14, 15], s.statusWord.getLsbD k = false := by
  have hbit : ∀ k, k = 3 ∨ 6 ≤ k ∧ k < 8 ∨ 10 ≤ k ∧ k < 16 → s.statusWord.getLsbD k =
      ((bitAt s.disc.active 6).getLsbD k || (bitAt s.timer.pendingPresent 10).getLsbD k) := by
    intro k hk
    have hclear : (pairWord s.run.lineCheck.code (s.run.state.code + 16 * s.timer.window.code)).getLsbD k = false := by
      have hrun := s.run.state.code_lt
      rcases hk with rfl | ⟨h6, h8⟩ | ⟨h10, h16⟩
      · rw [getLsbD_pairWord_nibbles (by omega) (by decide), if_pos (by decide)]
        exact Nat.testBit_lt_two_pow hrun
      · rw [getLsbD_pairWord_nibbles (by omega) h8, if_neg (by omega)]
        have hpow : 2 ^ 2 ≤ 2 ^ (k - 4) := Nat.pow_le_pow_right Nat.two_pos (by omega)
        exact Nat.testBit_lt_two_pow (Nat.lt_of_lt_of_le s.timer.window.code_lt hpow)
      · exact getLsbD_pairWord_high_clear (j := 2) s.run.lineCheck.code_lt h10 h16
    rw [State.statusWord, BitVec.getLsbD_or, BitVec.getLsbD_or, hclear, Bool.false_or]
  refine ⟨?_, ?_, fun k hk => ?_⟩
  · rw [hbit 6 (by decide), getLsbD_bitAt, getLsbD_bitAt]
    simp
  · rw [hbit 10 (by decide), getLsbD_bitAt, getLsbD_bitAt]
    simp
  · simp only [List.mem_cons, List.not_mem_nil, or_false] at hk
    have h6 : k ≠ 6 := by omega
    have h10 : k ≠ 10 := by omega
    rw [hbit k (by omega), getLsbD_bitAt, getLsbD_bitAt]
    simp [h6, h10]

theorem State.qcountWord_fields (hqueue : s.req.queue.length ≤ 16) (hcompletions : s.req.completions.length ≤ 16) :
    (s.qcountWord.extractLsb' 0 5).toNat = s.req.queue.length ∧
      (s.qcountWord.extractLsb' 8 5).toNat = s.req.completions.length ∧
      ∀ k ∈ [5, 6, 7, 13, 14, 15], s.qcountWord.getLsbD k = false := by
  refine ⟨pairWord_low (by decide) (by omega), pairWord_high (by decide) (by omega), fun k hk => ?_⟩
  simp only [List.mem_cons, List.not_mem_nil, or_false] at hk
  rcases (show (5 ≤ k ∧ k < 8) ∨ (13 ≤ k ∧ k < 16) by omega) with ⟨h5, h8⟩ | ⟨h13, h16⟩
  · exact getLsbD_pairWord_clear (j := 5) (by omega) h5 h8
  · exact getLsbD_pairWord_high_clear (j := 5) (by omega) h13 h16

/-! ### The mailbox image (R132) -/

theorem State.getLsbD_imageWord (base : Nat) {n : Nat} (hn : n < 16) :
    (s.imageWord base).getLsbD n = s.imageBit (base + n) := by
  rw [State.imageWord, getLsbD_foldl_bitAt (fun k => s.imageBit (base + k)) _ _ hn]
  simp [hn]

theorem State.imageBit_eq (n : Nat) : s.imageBit n = if (s.entry n).direction = 0 then (s.mailbox n).full
    else if (s.entry n).direction = 1 then (s.mailbox n).fresh else false := by
  simp only [State.imageBit, SchedEntry.isRead_iff, SchedEntry.isWrite_iff]

/-- Settles O58: each access by the region selected, and each register and region by the words that it shows. -/
theorem windowAccess : Obligations.WindowAccess := by
  refine ⟨fun s v h => ?_, fun s => ?_, by decide⟩
  · intro sel i size next
    rw [State.exec_winSelWrite h, State.exec_winIndexWrite h, State.exec_winDataRead h, State.exec_winDataWrite h]
    refine ⟨rfl, rfl, fun hsel => ?_, fun hsel => ?_, fun hfilled hsel => ?_, fun hsel => ?_, fun hfilled hi => ?_⟩
    · rw [HostPort.advance_selected hsel]
      rfl
    · rw [HostPort.advance_unselected hsel, s.regionWord_unselected hsel]
      rfl
    · rw [s.host.storeWord_not_filled hfilled, HostPort.advance_selected hsel]
      rfl
    · rw [s.host.storeWord_not_filled (hostFilled_unselected hsel), HostPort.advance_unselected hsel]
      rfl
    · have hsel : s.host.winSel.toNat < 8 := by
        by_contra hnot
        rw [hostFilled_unselected (by omega)] at hfilled
        cases hfilled
      refine ⟨_, rfl, ?_, ?_, fun region k hother => ?_⟩
      · obtain ⟨reqStage, schedStage, putBuf, pinStage, hstored⟩ := s.host.storeWord_frame s.host.winSel i v
        rw [hstored, HostPort.advance_selected (h := { s.host with reqStage, schedStage, putBuf, pinStage }) hsel]
        rfl
      · rw [s.regionWord_advance, s.regionWord_storeWord_self hfilled hi]
      · rw [s.regionWord_advance]
        by_cases hregion : region = s.host.winSel
        · subst hregion
          exact s.regionWord_storeWord_index hfilled (hother.resolve_left (not_not.2 rfl)) v
        · exact s.regionWord_storeWord_region hregion i v k
  · intro field clear
    obtain ⟨hrun, hwindow, hcheck⟩ := s.statusWord_fields
    obtain ⟨hsweep, hpending, hclear⟩ := s.statusWord_bits
    refine ⟨s.cqHead_nil, fun c rest hhead => ?_, ⟨fun t low hset => ?_, s.timing_flag, s.timing_window⟩,
      ⟨hrun, hwindow, by rw [← s.disc.active_iff, ← hsweep]; rfl, hcheck, hpending, hclear⟩, s.qcountWord_fields,
      fun h => toNat_word (by omega), ?_, fun h => toNat_word (by omega), fun h => toNat_word (by omega),
      toNat_word (Nat.lt_trans s.host.result.code_lt (by decide)), rfl, rfl⟩
    · intro word
      have hword : word = fun k => c.words.getD k 0 := funext (s.cqHead_cons hhead)
      rw [hword]
      exact c.words_fields
    · rcases hset with hset | hset
      all_goals
        cases hset
        exact ⟨toNat_word, toNat_word, toNat_word, toNat_word, toNat_word⟩
    · intro image n hn
      refine ⟨(s.getLsbD_imageWord 0 hn).trans ?_, (s.getLsbD_imageWord 16 hn).trans (s.imageBit_eq _)⟩
      rw [Nat.zero_add, s.imageBit_eq]

end Sys2Proof.Machine
end
section
/-! PROOFS. Reset, initialisation and the commands of Run Control: what RESET# and INIT let through, and the commands and samples
whose whole next state is known (R151 to R155, R157, R159, R160, R171). -/

namespace Sys2Proof.Machine

open Sys2Proof

variable {s : State} {c : Instr}

/-! ### RESET# and RESET (R151, R152) -/

/-- Settles O3: each effect is the model's own, and `State.resetBlocks` writes the reset state out. -/
theorem resetPinHoldsBlock : Obligations.ResetPinHoldsBlock := by
  refine ⟨fun _ => rfl, fun s hreset => ⟨Config.undefinedRead s.freeIndex, ?_⟩, fun s hreset => ?_, fun _ _ => rfl⟩
  · exact congrArg Host.Outcome.next (if_pos (by simp [hreset]))
  · exact congrArg Host.Outcome.next (if_pos hreset)

/-- Settles O5: RESET is accepted and resets the blocks; the end of initialisation occurs in INIT. -/
theorem resetAndInit : Obligations.ResetAndInit :=
  ⟨fun _ haccepts => congrArg Host.Outcome.next (State.command_accepted haccepts _ _),
    fun _ hreset hinit => congrArg Host.Outcome.next (if_pos ⟨hinit, hreset⟩)⟩

/-! ### Host accesses while RESET# is asserted and during INIT (R151, R153) -/

/-- A write to a register other than CMD is a bus write, however it is spelled (R164, R165). -/
theorem exec_eq_busWrite (h : writesRegister c = true) (s : State) :
    ∃ store, exec c s = .next (s.busWrite store) := by
  cases c with
  | winSelWrite value => exact ⟨_, rfl⟩
  | winIndexWrite value => exact ⟨_, rfl⟩
  | winDataWrite value => exact ⟨_, rfl⟩
  | eventWrite value => exact ⟨_, rfl⟩
  | enableWrite value => exact ⟨_, rfl⟩
  | registerWrite addr value =>
    show ∃ store, Host.Outcome.next (s.registerWrite addr value) = (.next (s.busWrite store) : Answer)
    unfold State.registerWrite
    split
    case h_3 haddr =>
      obtain rfl : addr = 5 := BitVec.eq_of_toNat_eq haddr
      cases h
    all_goals exact ⟨_, rfl⟩
  | _ => cases h

/-- A write to CMD is ignored while RESET# is asserted (R151). -/
theorem exec_writesCommand_held (hreset : s.run.resetAsserted = true) (h : writesCommand c = true) : exec c s = .next s := by
  obtain ⟨code, hexec⟩ := exec_of_writesCommand h s
  exact hexec.trans (congrArg Host.Outcome.next (State.command_held hreset _ _))

/-- A write to CMD is refused NOT_READY during INIT (R153). -/
theorem exec_writesCommand_init (hreset : s.run.resetAsserted = false) (hinit : s.run.state = .init)
    (h : writesCommand c = true) : exec c s = .next (s.setResult .notReady 0) := by
  obtain ⟨code, hexec⟩ := exec_of_writesCommand h s
  exact hexec.trans (congrArg Host.Outcome.next (State.command_init hreset hinit _ _))

/-- A write to another register is ignored while RESET# is asserted and during INIT (R151, R153). -/
theorem exec_writesRegister_held (hheld : s.run.resetAsserted = true ∨ s.run.state = .init) (h : writesRegister c = true) :
    exec c s = .next s := by
  obtain ⟨store, hexec⟩ := exec_eq_busWrite h s
  exact hexec.trans (congrArg Host.Outcome.next (State.busWrite_held hheld store))

/-- A read of WIN_DATA returns 0 and moves no index while RESET# is asserted and during INIT (R151, R153). -/
theorem exec_winDataRead_held (hheld : s.run.resetAsserted = true ∨ s.run.state = .init) :
    exec .winDataRead s = .next (s.setDataBus 0) :=
  congrArg Host.Outcome.next (if_pos (by simpa using hheld))

/-- Settles O4: a write to CMD is the command mechanism's, any other a bus write, and both let nothing through. -/
theorem hostAccessWhileHeld : Obligations.HostAccessWhileHeld := fun _ _ =>
  ⟨fun hreset hwrite => hwrite.elim (exec_writesCommand_held hreset) (exec_writesRegister_held (.inl hreset)),
    exec_writesCommand_init, fun hinit => exec_writesRegister_held (.inr hinit), exec_winDataRead_held⟩

/-! ### The commands of Run Control (R154, R155, R157, R159) -/

theorem State.start_refused (h : s.run.state ≠ .off) : s.start = s.setResult .badState 0 := if_neg h

theorem State.stop_refused (h : s.run.state = .draining ∨ s.run.state = .off) : s.stop = s.setResult .badState 0 := by
  unfold State.stop
  rcases h with h | h <;> rw [h]

theorem State.halt_refused (h : s.run.state = .off) : s.halt = s.setResult .badState 0 := by
  unfold State.halt
  rw [h]

theorem State.resume_refused (h : s.run.state ≠ .faulted) : s.resume = s.setResult .badState 0 := if_neg h

/-- Settles O14: each command is accepted with its code stored, and then refused by the run state. -/
theorem runCommandsRefused : Obligations.RunCommandsRefused := by
  intro s haccepts
  have hexec : ∀ {code : Word} {owner : State → State}, owner (s.setCmd code) = (s.setCmd code).setResult .badState 0 →
      Host.Outcome.next (s.command code owner) = (.next (s.replied code .badState 0) : Answer) := fun howner =>
    congrArg Host.Outcome.next ((State.command_accepted haccepts _ _).trans howner)
  exact ⟨fun h => hexec (State.start_refused h), fun h => hexec (State.stop_refused h), fun h => hexec (State.halt_refused h),
    fun h => hexec (State.resume_refused h)⟩

/-- A dominant sample is one already taken, or one in a bit time of the check that has not ended (R160). -/
theorem CheckProgress.mayStick_iff (p : CheckProgress) :
    p.mayStick = true ↔ (∃ n, p = .sampling n ∧ n < 32) ∨ p = .dominant := by
  cases p <;> simp [CheckProgress.mayStick]

/-- Settles O12: RESUME is accepted in FAULTED, and the dominant sample occurs in CHECKING. -/
theorem resumeAndStuckCheck : Obligations.ResumeAndStuckCheck := by
  refine ⟨fun s hreset hfaulted => ?_, fun s hchecking hsample => ?_⟩
  · have haccepts : s.accepts := ⟨hreset, by simp [hfaulted]⟩
    have hresume : (s.setCmd 0x05).resume = _ := if_pos hfaulted
    exact congrArg Host.Outcome.next ((State.command_accepted haccepts _ _).trans hresume)
  · exact congrArg Host.Outcome.next (if_pos ⟨hchecking, s.run.check.mayStick_iff.2 hsample⟩)

end Sys2Proof.Machine
end

section
/-! PROOFS. In INIT every block keeps its reset values but for the result NOT_READY (R151, R153): what is sent to a block that
holds them keeps that form or ends INIT, and no step leads back to INIT but a reset. -/

namespace Sys2Proof.Machine

open Sys2Proof

variable {s t u : State} {c : Instr}

/-! ### The form of a block in INIT -/

theorem State.resetBlocks_initLawful (s : State) (asserted : Bool) : (s.resetBlocks asserted).InitLawful :=
  ⟨fun _ => rfl, fun _ => ⟨rfl, .inl rfl, rfl⟩⟩

theorem State.resetPinAssert_initLawful (s : State) (duringRead : Bool) : (s.resetPinAssert duringRead).InitLawful := by
  unfold State.resetPinAssert
  dsimp only
  split
  · exact ⟨fun _ => rfl, fun _ => ⟨rfl, .inl rfl, rfl⟩⟩
  · exact s.resetBlocks_initLawful true

theorem State.InitLawful.resetPinRelease (h : s.InitLawful) : s.resetPinRelease.InitLawful := by
  unfold State.resetPinRelease
  split
  · exact s.resetBlocks_initLawful false
  · exact h

/-- The queue is no part of the block. -/
theorem State.InitLawful.setPending (h : s.InitLawful) (q : List Instr) : (s.setPending q).InitLawful :=
  ⟨h.1, fun hinit =>
    let ⟨hheld, hresult, hval⟩ := h.2 hinit
    ⟨congrArg (State.setPending · q) hheld, hresult, hval⟩⟩

/-- Neither is the word last read on the bus. -/
theorem State.InitLawful.setDataBus (h : s.InitLawful) (v : Word) : (s.setDataBus v).InitLawful :=
  ⟨h.1, fun hinit =>
    let ⟨hheld, hresult, hval⟩ := h.2 hinit
    ⟨congrArg (State.setDataBus · v) hheld, hresult, hval⟩⟩

theorem State.InitLawful.setResult_notReady (h : s.InitLawful) : (s.setResult .notReady 0).InitLawful :=
  ⟨h.1, fun hinit => ⟨congrArg (State.setResult · .notReady 0) (h.2 hinit).1, .inr rfl, rfl⟩⟩

/-- Outside INIT, with RESET# deasserted, the law of INIT asks for nothing. -/
theorem State.initLawful_of_accepts (h : s.accepts) : s.InitLawful := by
  obtain ⟨hreset, hstate⟩ := h
  exact ⟨fun hasserted => absurd hasserted (by simp [hreset]), fun hinit => absurd hinit hstate⟩

theorem State.InitLawful.initEnd (h : s.InitLawful) : s.initEnd.InitLawful := by
  unfold State.initEnd
  split
  · next hends => exact State.initLawful_of_accepts ⟨hends.2, RunState.noConfusion⟩
  · exact h

/-! ### Outside INIT, nothing but a reset leads to it (R150 to R160) -/

theorem State.accepts_of_run (hrun : t.run = s.run) (h : s.accepts) : t.accepts := by rwa [State.accepts, hrun]

theorem State.OwnersAct.accepts (hacts : s.OwnersAct t) (h : s.accepts) : t.accepts := State.accepts_of_run hacts.run h

theorem State.enterOff_accepts (h : s.accepts) : s.enterOff.accepts := ⟨h.1, RunState.noConfusion⟩

theorem State.enterRunning_accepts (h : s.accepts) : s.enterRunning.accepts :=
  have hrunning : ((s.setRunState .running).setEchoCount 0).cycleOpened.accepts := ⟨h.1, RunState.noConfusion⟩
  ((State.cycleStart_acts _).trans (State.setBoundary_acts _ true)).takeUp.accepts hrunning

theorem State.enterFaulted_accepts (h : s.accepts) : s.enterFaulted.accepts := by
  have hrun : s.enterFaulted.run = { s.run with state := .faulted } := congrArg Stage.run s.enterFaulted_stage.1
  exact State.accepts_of_run (s := s.setRunState .faulted) hrun ⟨h.1, RunState.noConfusion⟩

theorem State.echoError_accepts (h : s.accepts) : s.echoError.accepts := by
  unfold State.echoError
  dsimp only
  split
  · exact State.enterFaulted_accepts h
  · exact h

theorem State.failFrame_accepts (h : s.accepts) (r : Record) (offGrid : Bool) : (s.failFrame r offGrid).accepts := by
  have hecho := State.echoError_accepts
    (s := s.setRecord (some { r.close (some .lineError) offGrid with after := .finish })) h
  unfold State.failFrame
  dsimp only
  split
  · exact (State.discLineError_acts _).accepts hecho
  · exact hecho

theorem State.driveFrame_accepts (h : s.accepts) (r : Record) : (s.driveFrame r).accepts := by
  unfold State.driveFrame
  split
  · exact h
  · exact State.failFrame_accepts h r false

theorem State.grant_accepts (h : s.accepts) (g : Grant) : (s.grant g).accepts := by
  cases g with
  | beacon => exact State.driveFrame_accepts (s := s.setBeaconPending false) h _
  | sched claim =>
    unfold State.grant
    dsimp only
    split
    · next n _ =>
      exact State.driveFrame_accepts (s := (s.setSchedClaim none).setEntry n ((s.entry n).granted claim.attempt)) h _
    · exact h
  | request claim =>
    exact State.driveFrame_accepts (s := ((s.setReqClaim none).setLastGrant .request).reqGranted) h _
  | round =>
    have hgranted := ((s.setRoundClaim false).setLastGrant .discovery).discGranted_stage
    exact State.driveFrame_accepts (State.accepts_of_run (congrArg Stage.run hgranted) h) _

theorem State.decideGrant_accepts (h : s.accepts) : s.decideGrant.accepts := by
  unfold State.decideGrant
  split
  · exact h
  refine (State.chooseAtBoundary_acts _).accepts ?_
  unfold State.grantDecided
  split
  · split
    · exact State.grant_accepts (s := s.setBoundary false) h _
    · exact h
  · exact h

theorem State.onRecord_accepts {may : Record → Bool} {event : Record → State} (h : s.accepts)
    (hevent : ∀ r, (event r).accepts) : (s.onRecord may event).accepts := by
  unfold State.onRecord
  split
  · split
    · exact hevent _
    · exact h
  · exact h

theorem State.frameSent_accepts (h : s.accepts) (r : Record) : (s.frameSent r).accepts := by
  unfold State.frameSent
  dsimp only
  split
  · exact h
  · exact h

theorem State.classify_accepts (h : s.accepts) (r : Record) (o : LineOutcome) (reply : Reply) :
    (s.classify r o reply).accepts := by
  unfold State.classify
  dsimp only
  split
  · exact (State.discAssignOutcome_acts _ o).accepts h
  · exact h

theorem State.lineFree_accepts (h : s.accepts) : s.lineFree.accepts := by
  unfold State.lineFree
  split
  · exact ((State.schedLeave_acts _).trans (State.reqLeave_acts _)).accepts (State.enterOff_accepts h)
  · exact h

/-- A round that ends is its owner's part of the transaction's end, which leaves Run Control (`State.transactionEnds_frame`). -/
theorem State.finishRound_run {r : Record} (howner : r.owner = .discovery) (s : State) : (s.finishRound r).run = s.run := by
  have hrun := (s.transactionEnds_frame r).1
  rwa [State.transactionEnds, howner] at hrun

theorem State.gapEnd_accepts (h : s.accepts) (r : Record) : (s.gapEnd r).accepts := by
  unfold State.gapEnd
  split
  · exact State.lineFree_accepts h
  · exact State.lineFree_accepts ((s.deliver_acts _ _).accepts h)
  next howner =>
    split
    · exact (State.discPhase_acts _ _).accepts h
    · exact State.driveFrame_accepts h _
    · exact State.driveFrame_accepts h _
    · exact State.driveFrame_accepts h _
    · exact (State.roundClaimSeen_acts _).accepts
        (State.lineFree_accepts (State.accepts_of_run (s.finishRound_run howner) h))

theorem State.stop_accepts (h : s.accepts) : s.stop.accepts := by
  have hoff := State.enterOff_accepts h
  have hcut := ((State.cutLine_acts (s := s.enterOff) rfl).1.trans (State.schedLeave_acts _)).accepts hoff
  unfold State.stop
  split
  · split
    · exact (State.ownersLeave_acts (s := s.enterDraining.schedWithdraw) RunState.noConfusion _).1.accepts
        ⟨h.1, RunState.noConfusion⟩
    · exact (State.ownersLeave_acts (s := s.enterOff.schedLeave) RunState.noConfusion _).1.accepts hoff
  · exact hcut
  · exact hcut
  all_goals exact h

theorem State.halt_accepts (h : s.accepts) : s.halt.accepts := by
  unfold State.halt
  dsimp only
  split
  case h_5 | h_6 => exact h
  all_goals
    exact (State.schedLeave_acts _).accepts
      ((State.haltParts_acts (s := s.enterOff) rfl _ s.roundOnLine).1.accepts (State.enterOff_accepts h))

/-- After a change of run state, timing set, window or record outside INIT, the block is outside INIT or has been reset. -/
theorem State.Performs.initLawful (h : u.Performs t) (hu : u.accepts) : t.InitLawful := by
  cases h with
  | nothing => exact State.initLawful_of_accepts hu
  | resetPinAssert duringRead => exact u.resetPinAssert_initLawful duringRead
  | resetPinRelease => exact State.InitLawful.resetPinRelease (State.initLawful_of_accepts hu)
  | reset => exact u.resetBlocks_initLawful false
  | initEnd => exact State.InitLawful.initEnd (State.initLawful_of_accepts hu)
  | start =>
    refine State.initLawful_of_accepts ?_
    unfold State.start
    split
    · exact (State.setResult_acts _ _ _).accepts (State.enterRunning_accepts hu)
    · exact hu
  | stop => exact State.initLawful_of_accepts (State.stop_accepts hu)
  | halt => exact State.initLawful_of_accepts (State.halt_accepts hu)
  | resume =>
    refine State.initLawful_of_accepts ?_
    unfold State.resume
    split
    · exact ⟨hu.1, RunState.noConfusion⟩
    · exact hu
  | lineCheckStuck =>
    refine State.initLawful_of_accepts ?_
    unfold State.lineCheckStuck
    split
    · exact ⟨hu.1, RunState.noConfusion⟩
    · exact hu
  | lineCheckClear =>
    refine State.initLawful_of_accepts ?_
    unfold State.lineCheckClear
    split
    · exact State.enterRunning_accepts
        (s := ({ u with run := { u.run with check := .idle, lineCheck := .clear } } : State).raiseCheckDone) hu
    · exact hu
  | timingLoad =>
    refine State.initLawful_of_accepts ?_
    unfold State.timingLoad
    dsimp only
    split
    · exact hu
    · exact hu
  | openExpiry =>
    refine State.initLawful_of_accepts ?_
    unfold State.openExpiry
    split
    · exact u.cycleStart_acts.accepts hu
    · exact hu
  | schedExpiry =>
    refine State.initLawful_of_accepts ?_
    unfold State.schedExpiry
    split
    · exact (State.reqWindowOpens_acts _).accepts hu
    · exact hu
  | decideGrant => exact State.initLawful_of_accepts (State.decideGrant_accepts hu)
  | echoMismatch lrx =>
    exact State.initLawful_of_accepts (State.onRecord_accepts hu fun r => State.failFrame_accepts hu r true)
  | frameSentClean => exact State.initLawful_of_accepts (State.onRecord_accepts hu fun r => State.frameSent_accepts hu r)
  | responseWaitExpiry =>
    exact State.initLawful_of_accepts (State.onRecord_accepts hu fun _ => State.classify_accepts hu _ _ _)
  | replyLeadingEdge onGrid => exact State.initLawful_of_accepts (State.onRecord_accepts hu fun _ => hu)
  | replyReceptionEnd bytes onGrid =>
    exact State.initLawful_of_accepts (State.onRecord_accepts hu fun _ => State.classify_accepts hu _ _ _)
  | replyDeadline => exact State.initLawful_of_accepts (State.onRecord_accepts hu fun _ => State.classify_accepts hu _ _ _)
  | checkSlotsEnd =>
    exact State.initLawful_of_accepts (State.onRecord_accepts hu fun r => (u.discDecide_acts _ _).accepts hu)
  | closingGapEnd =>
    refine State.initLawful_of_accepts (State.onRecord_accepts hu fun r => ?_)
    split
    · exact State.gapEnd_accepts (s := u.setBoundary false) hu r
    · exact State.gapEnd_accepts hu r
  | bitTimeEnd mid fin =>
    refine State.initLawful_of_accepts ?_
    unfold State.bitTimeEnd
    split
    · have hrun := u.tick_run (mid := mid) (fin := fin)
      exact State.accepts_of_run (s := { u with run := { u.run with check := u.run.check.tick mid } }) hrun hu
    · exact hu

/-! ### In INIT (R151, R153) -/

/-- Events of the timer and the line cannot occur in INIT: no window is open, no record is held, the bit clock stands (R151, R153,
log 1). -/
theorem event_initLawful (hevent : isEvent c = true) (hexec : exec c s = .next t) (hinit : s.run.state = .init)
    (h : s.InitLawful) : t.InitLawful := by
  obtain ⟨hheld, -, -⟩ := h.2 hinit
  have hline : s.line = {} := congrArg State.line hheld
  have htimer : s.timer = {} := congrArg State.timer hheld
  have stays : ∀ {u : State}, Host.Outcome.next u = (.next t : Answer) → u = s → t.InitLawful := by
    rintro u ⟨⟩ rfl
    exact h
  have quiet : ∀ {may : Record → Bool} {event : Record → State}, s.onRecord may event = s :=
    State.onRecord_none (by simp [hline])
  cases c with
  | resetPinAssert duringRead => cases hexec; exact s.resetPinAssert_initLawful duringRead
  | resetPinRelease => cases hexec; exact h.resetPinRelease
  | initEnd => cases hexec; exact h.initEnd
  | winDataRead =>
    rw [exec_winDataRead_held (.inr hinit)] at hexec
    cases hexec
    exact h.setDataBus 0
  | lineCheckStuck => exact stays hexec (if_neg (by simp [hinit]))
  | lineCheckClear => exact stays hexec (if_neg (by simp [hinit]))
  | cycleStart => exact stays hexec (if_neg (by simp [htimer]))
  | schedWindowEnd => exact stays hexec (if_neg (by simp [htimer]))
  | grantDecision => exact stays hexec (if_pos (by simp [hline]))
  | bitTimeEnd mid fin => exact stays hexec (if_neg (by simp [State.mayTick, htimer]))
  | echoMismatch lrx => exact stays hexec quiet
  | frameSentClean => exact stays hexec quiet
  | responseWaitExpiry => exact stays hexec quiet
  | replyReceptionEnd bytes onGrid => exact stays hexec quiet
  | replyDeadline => exact stays hexec quiet
  | checkSlotsEnd => exact stays hexec quiet
  | closingGapEnd => exact stays hexec quiet
  | replyLeadingEdge onGrid => exact stays hexec quiet
  | registerWrite addr value => rw [not_isEvent_registerWrite] at hevent; cases hevent
  | _ => cases hevent

/-- In INIT a write to CMD leaves at most NOT_READY, and no other write is taken. -/
theorem exec_initLawful (hexec : exec c s = .next t) (hinit : s.run.state = .init) (h : s.InitLawful) : t.InitLawful := by
  cases hcommand : writesCommand c with
  | true =>
    cases hreset : s.run.resetAsserted with
    | true =>
      cases (exec_writesCommand_held hreset hcommand).symm.trans hexec
      exact h
    | false =>
      cases (exec_writesCommand_init hreset hinit hcommand).symm.trans hexec
      exact h.setResult_notReady
  | false =>
    cases hregister : writesRegister c with
    | true =>
      cases (exec_writesRegister_held (.inr hinit) hregister).symm.trans hexec
      exact h
    | false => exact event_initLawful (by rw [isEvent, hcommand, hregister]; rfl) hexec hinit h

/-- RESET# holds the block in INIT, so a block that does not accept commands is in INIT (R151). -/
theorem State.InitLawful.init_of_not_accepts (h : s.InitLawful) (hnot : ¬ s.accepts) : s.run.state = .init := by
  by_contra hstate
  exact hnot ⟨Bool.eq_false_iff.2 fun hasserted => hstate (h.1 hasserted), hstate⟩

/-- Settles O6: in INIT by `exec_initLawful`; outside it by the owners' acts, which leave Run Control, and
`State.Performs.initLawful`. -/
theorem initHoldsResetValues : Obligations.InitHoldsResetValues := by
  intro s t hlawful hstep
  by_cases haccepts : s.accepts
  · obtain ⟨u, hacts, hperforms⟩ := step_stepsTo hstep
    exact hperforms.initLawful (hacts.accepts haccepts)
  cases hp : s.pending with
  | nil =>
    rw [step_of_pending_nil hp] at hstep
    cases hstep
    exact hlawful
  | cons c rest =>
    have hexec : exec c (s.setPending rest) = .next t := by
      unfold step at hstep
      rwa [hp] at hstep
    exact exec_initLawful hexec (hlawful.init_of_not_accepts haccepts) (hlawful.setPending rest)

end Sys2Proof.Machine
end

section
/-! PROOFS. Writes by word address: what a register without a row of its own stores, and a write to CMD by its code (R164, R165,
R171, R172). -/

namespace Sys2Proof.Machine

open Sys2Proof

variable {s : State} {addr : BitVec 5}

/-! ### Registers without a row of their own (R165) -/

/-- A register without a row of its own takes a bus write as the Host Port stores it. -/
theorem State.registerWrite_accepted (h : s.accepts) (haddr : addr.toNat ∉ ownRowAddresses) (v : Word) :
    s.registerWrite addr v = s.setHost (s.host.storeRegister addr v) := by
  unfold State.registerWrite
  split
  case h_7 => exact State.busWrite_accepted h _
  all_goals
    next hown =>
      rw [hown] at haddr
      exact absurd (by decide) haddr

theorem not_mem_ownRowAddresses_of_takesNoWrite (h : takesNoWrite addr = true) : addr.toNat ∉ ownRowAddresses := by
  intro hown
  have hsub : ownRowAddresses ⊆ [3, 4, 5, 6, 16, 17, 18, 19, 20, 21, 22, 23, 24] := by decide
  have hnot : addr.toNat ∉ [3, 4, 5, 6, 16, 17, 18, 19, 20, 21, 22, 23, 24] := by simpa [takesNoWrite] using h
  exact hnot (hsub hown)

/-- A read-only or unassigned address stores nothing (R165, R179). -/
theorem HostPort.storeRegister_takesNoWrite (host : HostPort) (h : takesNoWrite addr = true) (v : Word) :
    host.storeRegister addr v = host := by
  unfold HostPort.storeRegister
  unfold takesNoWrite at h
  split
  case h_8 => rfl
  all_goals
    next haddr =>
      rw [haddr] at h
      cases h

/-! ### CMD (R171, R172) -/

/-- A code that names no command is stored and refused (R172, log 10). -/
theorem State.commandWrite_unknown (h : s.accepts) {code : Word} (hcode : commandCodes.contains code.toNat = false) :
    s.commandWrite code = s.replied code .unknownCommand 0 := by
  unfold State.commandWrite
  rw [commandTable_lookup_unknown hcode]
  exact State.command_accepted h _ _

/-- Settles O60: the registers that store and the places that take nothing by `State.registerWrite_accepted`, the unknown codes
by `State.commandWrite_unknown`; every other row is the model's own dispatch. -/
theorem registerWrites : Obligations.RegisterWrites := by
  intro s v haccepts stored
  have stores : ∀ addr : BitVec 5, addr.toNat ∉ ownRowAddresses → stored addr (s.host.storeRegister addr v) :=
    fun _ haddr => congrArg Host.Outcome.next (State.registerWrite_accepted haccepts haddr v)
  refine ⟨stores 6 (by decide), stores 16 (by decide), stores 17 (by decide), stores 18 (by decide), stores 19 (by decide),
    stores 20 (by decide), stores 21 (by decide), fun addr hnone => ?_, rfl, rfl, rfl, rfl, rfl, fun hcode => ?_, ?_⟩
  · have hstored := stores addr (not_mem_ownRowAddresses_of_takesNoWrite hnone)
    rwa [s.host.storeRegister_takesNoWrite hnone] at hstored
  · have hunknown : exec (.unknownCommand v) s = .next (s.replied v .unknownCommand 0) :=
      congrArg Host.Outcome.next (State.commandWrite_unknown haccepts hcode)
    exact ⟨hunknown, hunknown⟩
  · repeat refine List.forall_mem_cons.2 ⟨rfl, ?_⟩
    exact List.forall_mem_nil _

end Sys2Proof.Machine
end
